-- ==== Sys2Proof/Word.lean ====
section
/-! DEFINITION. The word types of the core: 8-bit values, and 16-bit values that are also the addresses
of the one address space (00_scope.md R8, 20_memory.md R60). -/

namespace Sys2Proof

/-- An 8-bit value, `u8` of 00_scope.md R8. -/
abbrev Byte := BitVec 8

/-- A 16-bit value, `u16` of 00_scope.md R8. -/
abbrev Word := BitVec 16

/-- A byte address of the one 16-bit address space (20_memory.md R60). -/
abbrev Addr := BitVec 16

end Sys2Proof
end

