-- ==== Sys2Proof/Syntax.lean ====
section
/-! DEFINITION. The instructions of the GBE core: one constructor per row of spec/opcode_table.json, with the
bytes after the opcode as its arguments, and the operand tables of 30_encoding.md R103 to R107. -/

namespace Sys2Proof

/-- The 8-bit operands of 30_encoding.md R103; `atHl` is `(HL)`. -/
inductive R8 where
  | b
  | c
  | d
  | e
  | h
  | l
  | atHl
  | a
  deriving DecidableEq, Repr

/-- The `r16` selector (30_encoding.md R104). -/
inductive R16 where
  | bc
  | de
  | hl
  | sp
  deriving DecidableEq, Repr

/-- The `r16stk` selector of PUSH and POP (30_encoding.md R104). -/
inductive R16Stk where
  | bc
  | de
  | hl
  | af
  deriving DecidableEq, Repr

/-- The `r16mem` selector (30_encoding.md R104); the last two step HL after the access. -/
inductive R16Mem where
  | bc
  | de
  | hlInc
  | hlDec
  deriving DecidableEq, Repr

/-- The condition field (30_encoding.md R105). -/
inductive Cc where
  | nz
  | z
  | nc
  | c
  deriving DecidableEq, Repr

/-- The ALU operation field (30_encoding.md R107). -/
inductive AluOp where
  | add
  | adc
  | sub
  | sbc
  | and
  | xor
  | or
  | cp
  deriving DecidableEq, Repr

/-- The secondary rotate and shift field (30_encoding.md R107). -/
inductive RotOp where
  | rlc
  | rrc
  | rl
  | rr
  | sla
  | sra
  | swap
  | srl
  deriving DecidableEq, Repr

/-- The instructions. A name is the mnemonic in small letters and its operands in capitals: `AtHl` is `(HL)`,
`AtHlInc` `(HL+)`, `AtC` `(C)`, `D8` an immediate byte and so on. The rows with bytes after the opcode stand
first, then the others, each group in the table's order (Lean can run only programs whose constructors with
arguments are among the first 244). -/
inductive Instr where
  /-- `LD BC,d16`, 0x01 (R144). -/
  | ldBcD16 (d16 : Word)
  /-- `LD B,d8`, 0x06 (R131). -/
  | ldBD8 (d8 : Byte)
  /-- `LD (a16),SP`, 0x08 (R145). -/
  | ldAtA16Sp (a16 : Word)
  /-- `LD C,d8`, 0x0E (R131). -/
  | ldCD8 (d8 : Byte)
  /-- `STOP`, 0x10 (R303). -/
  | stop (ignored : Byte)
  /-- `LD DE,d16`, 0x11 (R144). -/
  | ldDeD16 (d16 : Word)
  /-- `LD D,d8`, 0x16 (R131). -/
  | ldDD8 (d8 : Byte)
  /-- `JR e8`, 0x18 (R274). -/
  | jrE8 (e8 : Byte)
  /-- `LD E,d8`, 0x1E (R131). -/
  | ldED8 (d8 : Byte)
  /-- `JR NZ,e8`, 0x20 (R275). -/
  | jrNzE8 (e8 : Byte)
  /-- `LD HL,d16`, 0x21 (R144). -/
  | ldHlD16 (d16 : Word)
  /-- `LD H,d8`, 0x26 (R131). -/
  | ldHD8 (d8 : Byte)
  /-- `JR Z,e8`, 0x28 (R275). -/
  | jrZE8 (e8 : Byte)
  /-- `LD L,d8`, 0x2E (R131). -/
  | ldLD8 (d8 : Byte)
  /-- `JR NC,e8`, 0x30 (R275). -/
  | jrNcE8 (e8 : Byte)
  /-- `LD SP,d16`, 0x31 (R144). -/
  | ldSpD16 (d16 : Word)
  /-- `LD (HL),d8`, 0x36 (R131). -/
  | ldAtHlD8 (d8 : Byte)
  /-- `JR C,e8`, 0x38 (R275). -/
  | jrCE8 (e8 : Byte)
  /-- `LD A,d8`, 0x3E (R131). -/
  | ldAD8 (d8 : Byte)
  /-- `JP NZ,a16`, 0xC2 (R272). -/
  | jpNzA16 (a16 : Word)
  /-- `JP a16`, 0xC3 (R271). -/
  | jpA16 (a16 : Word)
  /-- `CALL NZ,a16`, 0xC4 (R277). -/
  | callNzA16 (a16 : Word)
  /-- `ADD A,d8`, 0xC6 (R174). -/
  | addAD8 (d8 : Byte)
  /-- `JP Z,a16`, 0xCA (R272). -/
  | jpZA16 (a16 : Word)
  /-- `PREFIX CB`, 0xCB (R306). -/
  | prefixCb (cb : Byte)
  /-- `CALL Z,a16`, 0xCC (R277). -/
  | callZA16 (a16 : Word)
  /-- `CALL a16`, 0xCD (R276). -/
  | callA16 (a16 : Word)
  /-- `ADC A,d8`, 0xCE (R176). -/
  | adcAD8 (d8 : Byte)
  /-- `JP NC,a16`, 0xD2 (R272). -/
  | jpNcA16 (a16 : Word)
  /-- `CALL NC,a16`, 0xD4 (R277). -/
  | callNcA16 (a16 : Word)
  /-- `SUB A,d8`, 0xD6 (R178). -/
  | subAD8 (d8 : Byte)
  /-- `JP C,a16`, 0xDA (R272). -/
  | jpCA16 (a16 : Word)
  /-- `CALL C,a16`, 0xDC (R277). -/
  | callCA16 (a16 : Word)
  /-- `SBC A,d8`, 0xDE (R180). -/
  | sbcAD8 (d8 : Byte)
  /-- `LDH (a8),A`, 0xE0 (R141). -/
  | ldhAtA8A (a8 : Byte)
  /-- `AND A,d8`, 0xE6 (R182). -/
  | andAD8 (d8 : Byte)
  /-- `ADD SP,e8`, 0xE8 (R216). -/
  | addSpE8 (e8 : Byte)
  /-- `LD (a16),A`, 0xEA (R139). -/
  | ldAtA16A (a16 : Word)
  /-- `XOR A,d8`, 0xEE (R184). -/
  | xorAD8 (d8 : Byte)
  /-- `LDH A,(a8)`, 0xF0 (R140). -/
  | ldhAAtA8 (a8 : Byte)
  /-- `OR A,d8`, 0xF6 (R186). -/
  | orAD8 (d8 : Byte)
  /-- `LD HL,SP+e8`, 0xF8 (R217). -/
  | ldHlSpE8 (e8 : Byte)
  /-- `LD A,(a16)`, 0xFA (R138). -/
  | ldAAtA16 (a16 : Word)
  /-- `CP A,d8`, 0xFE (R188). -/
  | cpAD8 (d8 : Byte)
  /-- `NOP`, 0x00 (R300). -/
  | nop
  /-- `LD (BC),A`, 0x02 (R133). -/
  | ldAtBcA
  /-- `INC BC`, 0x03 (R211). -/
  | incBc
  /-- `INC B`, 0x04 (R190). -/
  | incB
  /-- `DEC B`, 0x05 (R191). -/
  | decB
  /-- `RLCA`, 0x07 (R231). -/
  | rlca
  /-- `ADD HL,BC`, 0x09 (R214). -/
  | addHlBc
  /-- `LD A,(BC)`, 0x0A (R132). -/
  | ldAAtBc
  /-- `DEC BC`, 0x0B (R212). -/
  | decBc
  /-- `INC C`, 0x0C (R190). -/
  | incC
  /-- `DEC C`, 0x0D (R191). -/
  | decC
  /-- `RRCA`, 0x0F (R232). -/
  | rrca
  /-- `LD (DE),A`, 0x12 (R133). -/
  | ldAtDeA
  /-- `INC DE`, 0x13 (R211). -/
  | incDe
  /-- `INC D`, 0x14 (R190). -/
  | incD
  /-- `DEC D`, 0x15 (R191). -/
  | decD
  /-- `RLA`, 0x17 (R233). -/
  | rla
  /-- `ADD HL,DE`, 0x19 (R214). -/
  | addHlDe
  /-- `LD A,(DE)`, 0x1A (R132). -/
  | ldAAtDe
  /-- `DEC DE`, 0x1B (R212). -/
  | decDe
  /-- `INC E`, 0x1C (R190). -/
  | incE
  /-- `DEC E`, 0x1D (R191). -/
  | decE
  /-- `RRA`, 0x1F (R234). -/
  | rra
  /-- `LD (HL+),A`, 0x22 (R136). -/
  | ldAtHlIncA
  /-- `INC HL`, 0x23 (R211). -/
  | incHl
  /-- `INC H`, 0x24 (R190). -/
  | incH
  /-- `DEC H`, 0x25 (R191). -/
  | decH
  /-- `DAA`, 0x27 (R192). -/
  | daa
  /-- `ADD HL,HL`, 0x29 (R214). -/
  | addHlHl
  /-- `LD A,(HL+)`, 0x2A (R134). -/
  | ldAAtHlInc
  /-- `DEC HL`, 0x2B (R212). -/
  | decHl
  /-- `INC L`, 0x2C (R190). -/
  | incL
  /-- `DEC L`, 0x2D (R191). -/
  | decL
  /-- `CPL`, 0x2F (R193). -/
  | cpl
  /-- `LD (HL-),A`, 0x32 (R137). -/
  | ldAtHlDecA
  /-- `INC SP`, 0x33 (R211). -/
  | incSp
  /-- `INC (HL)`, 0x34 (R190). -/
  | incAtHl
  /-- `DEC (HL)`, 0x35 (R191). -/
  | decAtHl
  /-- `SCF`, 0x37 (R194). -/
  | scf
  /-- `ADD HL,SP`, 0x39 (R214). -/
  | addHlSp
  /-- `LD A,(HL-)`, 0x3A (R135). -/
  | ldAAtHlDec
  /-- `DEC SP`, 0x3B (R212). -/
  | decSp
  /-- `INC A`, 0x3C (R190). -/
  | incA
  /-- `DEC A`, 0x3D (R191). -/
  | decA
  /-- `CCF`, 0x3F (R195). -/
  | ccf
  /-- `LD B,B`, 0x40 (R130). -/
  | ldBB
  /-- `LD B,C`, 0x41 (R130). -/
  | ldBC
  /-- `LD B,D`, 0x42 (R130). -/
  | ldBD
  /-- `LD B,E`, 0x43 (R130). -/
  | ldBE
  /-- `LD B,H`, 0x44 (R130). -/
  | ldBH
  /-- `LD B,L`, 0x45 (R130). -/
  | ldBL
  /-- `LD B,(HL)`, 0x46 (R130). -/
  | ldBAtHl
  /-- `LD B,A`, 0x47 (R130). -/
  | ldBA
  /-- `LD C,B`, 0x48 (R130). -/
  | ldCB
  /-- `LD C,C`, 0x49 (R130). -/
  | ldCC
  /-- `LD C,D`, 0x4A (R130). -/
  | ldCD
  /-- `LD C,E`, 0x4B (R130). -/
  | ldCE
  /-- `LD C,H`, 0x4C (R130). -/
  | ldCH
  /-- `LD C,L`, 0x4D (R130). -/
  | ldCL
  /-- `LD C,(HL)`, 0x4E (R130). -/
  | ldCAtHl
  /-- `LD C,A`, 0x4F (R130). -/
  | ldCA
  /-- `LD D,B`, 0x50 (R130). -/
  | ldDB
  /-- `LD D,C`, 0x51 (R130). -/
  | ldDC
  /-- `LD D,D`, 0x52 (R130). -/
  | ldDD
  /-- `LD D,E`, 0x53 (R130). -/
  | ldDE
  /-- `LD D,H`, 0x54 (R130). -/
  | ldDH
  /-- `LD D,L`, 0x55 (R130). -/
  | ldDL
  /-- `LD D,(HL)`, 0x56 (R130). -/
  | ldDAtHl
  /-- `LD D,A`, 0x57 (R130). -/
  | ldDA
  /-- `LD E,B`, 0x58 (R130). -/
  | ldEB
  /-- `LD E,C`, 0x59 (R130). -/
  | ldEC
  /-- `LD E,D`, 0x5A (R130). -/
  | ldED
  /-- `LD E,E`, 0x5B (R130). -/
  | ldEE
  /-- `LD E,H`, 0x5C (R130). -/
  | ldEH
  /-- `LD E,L`, 0x5D (R130). -/
  | ldEL
  /-- `LD E,(HL)`, 0x5E (R130). -/
  | ldEAtHl
  /-- `LD E,A`, 0x5F (R130). -/
  | ldEA
  /-- `LD H,B`, 0x60 (R130). -/
  | ldHB
  /-- `LD H,C`, 0x61 (R130). -/
  | ldHC
  /-- `LD H,D`, 0x62 (R130). -/
  | ldHD
  /-- `LD H,E`, 0x63 (R130). -/
  | ldHE
  /-- `LD H,H`, 0x64 (R130). -/
  | ldHH
  /-- `LD H,L`, 0x65 (R130). -/
  | ldHL
  /-- `LD H,(HL)`, 0x66 (R130). -/
  | ldHAtHl
  /-- `LD H,A`, 0x67 (R130). -/
  | ldHA
  /-- `LD L,B`, 0x68 (R130). -/
  | ldLB
  /-- `LD L,C`, 0x69 (R130). -/
  | ldLC
  /-- `LD L,D`, 0x6A (R130). -/
  | ldLD
  /-- `LD L,E`, 0x6B (R130). -/
  | ldLE
  /-- `LD L,H`, 0x6C (R130). -/
  | ldLH
  /-- `LD L,L`, 0x6D (R130). -/
  | ldLL
  /-- `LD L,(HL)`, 0x6E (R130). -/
  | ldLAtHl
  /-- `LD L,A`, 0x6F (R130). -/
  | ldLA
  /-- `LD (HL),B`, 0x70 (R130). -/
  | ldAtHlB
  /-- `LD (HL),C`, 0x71 (R130). -/
  | ldAtHlC
  /-- `LD (HL),D`, 0x72 (R130). -/
  | ldAtHlD
  /-- `LD (HL),E`, 0x73 (R130). -/
  | ldAtHlE
  /-- `LD (HL),H`, 0x74 (R130). -/
  | ldAtHlH
  /-- `LD (HL),L`, 0x75 (R130). -/
  | ldAtHlL
  /-- `HALT`, 0x76 (R301). -/
  | halt
  /-- `LD (HL),A`, 0x77 (R130). -/
  | ldAtHlA
  /-- `LD A,B`, 0x78 (R130). -/
  | ldAB
  /-- `LD A,C`, 0x79 (R130). -/
  | ldAC
  /-- `LD A,D`, 0x7A (R130). -/
  | ldAD
  /-- `LD A,E`, 0x7B (R130). -/
  | ldAE
  /-- `LD A,H`, 0x7C (R130). -/
  | ldAH
  /-- `LD A,L`, 0x7D (R130). -/
  | ldAL
  /-- `LD A,(HL)`, 0x7E (R130). -/
  | ldAAtHl
  /-- `LD A,A`, 0x7F (R130). -/
  | ldAA
  /-- `ADD A,B`, 0x80 (R173). -/
  | addAB
  /-- `ADD A,C`, 0x81 (R173). -/
  | addAC
  /-- `ADD A,D`, 0x82 (R173). -/
  | addAD
  /-- `ADD A,E`, 0x83 (R173). -/
  | addAE
  /-- `ADD A,H`, 0x84 (R173). -/
  | addAH
  /-- `ADD A,L`, 0x85 (R173). -/
  | addAL
  /-- `ADD A,(HL)`, 0x86 (R173). -/
  | addAAtHl
  /-- `ADD A,A`, 0x87 (R173). -/
  | addAA
  /-- `ADC A,B`, 0x88 (R175). -/
  | adcAB
  /-- `ADC A,C`, 0x89 (R175). -/
  | adcAC
  /-- `ADC A,D`, 0x8A (R175). -/
  | adcAD
  /-- `ADC A,E`, 0x8B (R175). -/
  | adcAE
  /-- `ADC A,H`, 0x8C (R175). -/
  | adcAH
  /-- `ADC A,L`, 0x8D (R175). -/
  | adcAL
  /-- `ADC A,(HL)`, 0x8E (R175). -/
  | adcAAtHl
  /-- `ADC A,A`, 0x8F (R175). -/
  | adcAA
  /-- `SUB A,B`, 0x90 (R177). -/
  | subAB
  /-- `SUB A,C`, 0x91 (R177). -/
  | subAC
  /-- `SUB A,D`, 0x92 (R177). -/
  | subAD
  /-- `SUB A,E`, 0x93 (R177). -/
  | subAE
  /-- `SUB A,H`, 0x94 (R177). -/
  | subAH
  /-- `SUB A,L`, 0x95 (R177). -/
  | subAL
  /-- `SUB A,(HL)`, 0x96 (R177). -/
  | subAAtHl
  /-- `SUB A,A`, 0x97 (R177). -/
  | subAA
  /-- `SBC A,B`, 0x98 (R179). -/
  | sbcAB
  /-- `SBC A,C`, 0x99 (R179). -/
  | sbcAC
  /-- `SBC A,D`, 0x9A (R179). -/
  | sbcAD
  /-- `SBC A,E`, 0x9B (R179). -/
  | sbcAE
  /-- `SBC A,H`, 0x9C (R179). -/
  | sbcAH
  /-- `SBC A,L`, 0x9D (R179). -/
  | sbcAL
  /-- `SBC A,(HL)`, 0x9E (R179). -/
  | sbcAAtHl
  /-- `SBC A,A`, 0x9F (R179). -/
  | sbcAA
  /-- `AND A,B`, 0xA0 (R181). -/
  | andAB
  /-- `AND A,C`, 0xA1 (R181). -/
  | andAC
  /-- `AND A,D`, 0xA2 (R181). -/
  | andAD
  /-- `AND A,E`, 0xA3 (R181). -/
  | andAE
  /-- `AND A,H`, 0xA4 (R181). -/
  | andAH
  /-- `AND A,L`, 0xA5 (R181). -/
  | andAL
  /-- `AND A,(HL)`, 0xA6 (R181). -/
  | andAAtHl
  /-- `AND A,A`, 0xA7 (R181). -/
  | andAA
  /-- `XOR A,B`, 0xA8 (R183). -/
  | xorAB
  /-- `XOR A,C`, 0xA9 (R183). -/
  | xorAC
  /-- `XOR A,D`, 0xAA (R183). -/
  | xorAD
  /-- `XOR A,E`, 0xAB (R183). -/
  | xorAE
  /-- `XOR A,H`, 0xAC (R183). -/
  | xorAH
  /-- `XOR A,L`, 0xAD (R183). -/
  | xorAL
  /-- `XOR A,(HL)`, 0xAE (R183). -/
  | xorAAtHl
  /-- `XOR A,A`, 0xAF (R183). -/
  | xorAA
  /-- `OR A,B`, 0xB0 (R185). -/
  | orAB
  /-- `OR A,C`, 0xB1 (R185). -/
  | orAC
  /-- `OR A,D`, 0xB2 (R185). -/
  | orAD
  /-- `OR A,E`, 0xB3 (R185). -/
  | orAE
  /-- `OR A,H`, 0xB4 (R185). -/
  | orAH
  /-- `OR A,L`, 0xB5 (R185). -/
  | orAL
  /-- `OR A,(HL)`, 0xB6 (R185). -/
  | orAAtHl
  /-- `OR A,A`, 0xB7 (R185). -/
  | orAA
  /-- `CP A,B`, 0xB8 (R187). -/
  | cpAB
  /-- `CP A,C`, 0xB9 (R187). -/
  | cpAC
  /-- `CP A,D`, 0xBA (R187). -/
  | cpAD
  /-- `CP A,E`, 0xBB (R187). -/
  | cpAE
  /-- `CP A,H`, 0xBC (R187). -/
  | cpAH
  /-- `CP A,L`, 0xBD (R187). -/
  | cpAL
  /-- `CP A,(HL)`, 0xBE (R187). -/
  | cpAAtHl
  /-- `CP A,A`, 0xBF (R187). -/
  | cpAA
  /-- `RET NZ`, 0xC0 (R279). -/
  | retNz
  /-- `POP BC`, 0xC1 (R152). -/
  | popBc
  /-- `PUSH BC`, 0xC5 (R153). -/
  | pushBc
  /-- `RST 0x00`, 0xC7 (R281). -/
  | rst00
  /-- `RET Z`, 0xC8 (R279). -/
  | retZ
  /-- `RET`, 0xC9 (R278). -/
  | ret
  /-- `RST 0x08`, 0xCF (R281). -/
  | rst08
  /-- `RET NC`, 0xD0 (R279). -/
  | retNc
  /-- `POP DE`, 0xD1 (R152). -/
  | popDe
  /-- `illegal 0xD3`, 0xD3 (R307). -/
  | illegalD3
  /-- `PUSH DE`, 0xD5 (R153). -/
  | pushDe
  /-- `RST 0x10`, 0xD7 (R281). -/
  | rst10
  /-- `RET C`, 0xD8 (R279). -/
  | retC
  /-- `RETI`, 0xD9 (R280). -/
  | reti
  /-- `illegal 0xDB`, 0xDB (R307). -/
  | illegalDB
  /-- `illegal 0xDD`, 0xDD (R307). -/
  | illegalDD
  /-- `RST 0x18`, 0xDF (R281). -/
  | rst18
  /-- `POP HL`, 0xE1 (R152). -/
  | popHl
  /-- `LD (C),A`, 0xE2 (R143). -/
  | ldAtCA
  /-- `illegal 0xE3`, 0xE3 (R307). -/
  | illegalE3
  /-- `illegal 0xE4`, 0xE4 (R307). -/
  | illegalE4
  /-- `PUSH HL`, 0xE5 (R153). -/
  | pushHl
  /-- `RST 0x20`, 0xE7 (R281). -/
  | rst20
  /-- `JP HL`, 0xE9 (R273). -/
  | jpHl
  /-- `illegal 0xEB`, 0xEB (R307). -/
  | illegalEB
  /-- `illegal 0xEC`, 0xEC (R307). -/
  | illegalEC
  /-- `illegal 0xED`, 0xED (R307). -/
  | illegalED
  /-- `RST 0x28`, 0xEF (R281). -/
  | rst28
  /-- `POP AF`, 0xF1 (R152). -/
  | popAf
  /-- `LD A,(C)`, 0xF2 (R142). -/
  | ldAAtC
  /-- `DI`, 0xF3 (R304). -/
  | di
  /-- `illegal 0xF4`, 0xF4 (R307). -/
  | illegalF4
  /-- `PUSH AF`, 0xF5 (R153). -/
  | pushAf
  /-- `RST 0x30`, 0xF7 (R281). -/
  | rst30
  /-- `LD SP,HL`, 0xF9 (R146). -/
  | ldSpHl
  /-- `EI`, 0xFB (R305). -/
  | ei
  /-- `illegal 0xFC`, 0xFC (R307). -/
  | illegalFC
  /-- `illegal 0xFD`, 0xFD (R307). -/
  | illegalFD
  /-- `RST 0x38`, 0xFF (R281). -/
  | rst38
  /-- `RLC B`, 0xCB 0x00 (R236). -/
  | rlcB
  /-- `RLC C`, 0xCB 0x01 (R236). -/
  | rlcC
  /-- `RLC D`, 0xCB 0x02 (R236). -/
  | rlcD
  /-- `RLC E`, 0xCB 0x03 (R236). -/
  | rlcE
  /-- `RLC H`, 0xCB 0x04 (R236). -/
  | rlcH
  /-- `RLC L`, 0xCB 0x05 (R236). -/
  | rlcL
  /-- `RLC (HL)`, 0xCB 0x06 (R236). -/
  | rlcAtHl
  /-- `RLC A`, 0xCB 0x07 (R236). -/
  | rlcA
  /-- `RRC B`, 0xCB 0x08 (R237). -/
  | rrcB
  /-- `RRC C`, 0xCB 0x09 (R237). -/
  | rrcC
  /-- `RRC D`, 0xCB 0x0A (R237). -/
  | rrcD
  /-- `RRC E`, 0xCB 0x0B (R237). -/
  | rrcE
  /-- `RRC H`, 0xCB 0x0C (R237). -/
  | rrcH
  /-- `RRC L`, 0xCB 0x0D (R237). -/
  | rrcL
  /-- `RRC (HL)`, 0xCB 0x0E (R237). -/
  | rrcAtHl
  /-- `RRC A`, 0xCB 0x0F (R237). -/
  | rrcA
  /-- `RL B`, 0xCB 0x10 (R238). -/
  | rlB
  /-- `RL C`, 0xCB 0x11 (R238). -/
  | rlC
  /-- `RL D`, 0xCB 0x12 (R238). -/
  | rlD
  /-- `RL E`, 0xCB 0x13 (R238). -/
  | rlE
  /-- `RL H`, 0xCB 0x14 (R238). -/
  | rlH
  /-- `RL L`, 0xCB 0x15 (R238). -/
  | rlL
  /-- `RL (HL)`, 0xCB 0x16 (R238). -/
  | rlAtHl
  /-- `RL A`, 0xCB 0x17 (R238). -/
  | rlA
  /-- `RR B`, 0xCB 0x18 (R239). -/
  | rrB
  /-- `RR C`, 0xCB 0x19 (R239). -/
  | rrC
  /-- `RR D`, 0xCB 0x1A (R239). -/
  | rrD
  /-- `RR E`, 0xCB 0x1B (R239). -/
  | rrE
  /-- `RR H`, 0xCB 0x1C (R239). -/
  | rrH
  /-- `RR L`, 0xCB 0x1D (R239). -/
  | rrL
  /-- `RR (HL)`, 0xCB 0x1E (R239). -/
  | rrAtHl
  /-- `RR A`, 0xCB 0x1F (R239). -/
  | rrA
  /-- `SLA B`, 0xCB 0x20 (R240). -/
  | slaB
  /-- `SLA C`, 0xCB 0x21 (R240). -/
  | slaC
  /-- `SLA D`, 0xCB 0x22 (R240). -/
  | slaD
  /-- `SLA E`, 0xCB 0x23 (R240). -/
  | slaE
  /-- `SLA H`, 0xCB 0x24 (R240). -/
  | slaH
  /-- `SLA L`, 0xCB 0x25 (R240). -/
  | slaL
  /-- `SLA (HL)`, 0xCB 0x26 (R240). -/
  | slaAtHl
  /-- `SLA A`, 0xCB 0x27 (R240). -/
  | slaA
  /-- `SRA B`, 0xCB 0x28 (R241). -/
  | sraB
  /-- `SRA C`, 0xCB 0x29 (R241). -/
  | sraC
  /-- `SRA D`, 0xCB 0x2A (R241). -/
  | sraD
  /-- `SRA E`, 0xCB 0x2B (R241). -/
  | sraE
  /-- `SRA H`, 0xCB 0x2C (R241). -/
  | sraH
  /-- `SRA L`, 0xCB 0x2D (R241). -/
  | sraL
  /-- `SRA (HL)`, 0xCB 0x2E (R241). -/
  | sraAtHl
  /-- `SRA A`, 0xCB 0x2F (R241). -/
  | sraA
  /-- `SWAP B`, 0xCB 0x30 (R242). -/
  | swapB
  /-- `SWAP C`, 0xCB 0x31 (R242). -/
  | swapC
  /-- `SWAP D`, 0xCB 0x32 (R242). -/
  | swapD
  /-- `SWAP E`, 0xCB 0x33 (R242). -/
  | swapE
  /-- `SWAP H`, 0xCB 0x34 (R242). -/
  | swapH
  /-- `SWAP L`, 0xCB 0x35 (R242). -/
  | swapL
  /-- `SWAP (HL)`, 0xCB 0x36 (R242). -/
  | swapAtHl
  /-- `SWAP A`, 0xCB 0x37 (R242). -/
  | swapA
  /-- `SRL B`, 0xCB 0x38 (R243). -/
  | srlB
  /-- `SRL C`, 0xCB 0x39 (R243). -/
  | srlC
  /-- `SRL D`, 0xCB 0x3A (R243). -/
  | srlD
  /-- `SRL E`, 0xCB 0x3B (R243). -/
  | srlE
  /-- `SRL H`, 0xCB 0x3C (R243). -/
  | srlH
  /-- `SRL L`, 0xCB 0x3D (R243). -/
  | srlL
  /-- `SRL (HL)`, 0xCB 0x3E (R243). -/
  | srlAtHl
  /-- `SRL A`, 0xCB 0x3F (R243). -/
  | srlA
  /-- `BIT 0,B`, 0xCB 0x40 (R244). -/
  | bit0B
  /-- `BIT 0,C`, 0xCB 0x41 (R244). -/
  | bit0C
  /-- `BIT 0,D`, 0xCB 0x42 (R244). -/
  | bit0D
  /-- `BIT 0,E`, 0xCB 0x43 (R244). -/
  | bit0E
  /-- `BIT 0,H`, 0xCB 0x44 (R244). -/
  | bit0H
  /-- `BIT 0,L`, 0xCB 0x45 (R244). -/
  | bit0L
  /-- `BIT 0,(HL)`, 0xCB 0x46 (R244). -/
  | bit0AtHl
  /-- `BIT 0,A`, 0xCB 0x47 (R244). -/
  | bit0A
  /-- `BIT 1,B`, 0xCB 0x48 (R244). -/
  | bit1B
  /-- `BIT 1,C`, 0xCB 0x49 (R244). -/
  | bit1C
  /-- `BIT 1,D`, 0xCB 0x4A (R244). -/
  | bit1D
  /-- `BIT 1,E`, 0xCB 0x4B (R244). -/
  | bit1E
  /-- `BIT 1,H`, 0xCB 0x4C (R244). -/
  | bit1H
  /-- `BIT 1,L`, 0xCB 0x4D (R244). -/
  | bit1L
  /-- `BIT 1,(HL)`, 0xCB 0x4E (R244). -/
  | bit1AtHl
  /-- `BIT 1,A`, 0xCB 0x4F (R244). -/
  | bit1A
  /-- `BIT 2,B`, 0xCB 0x50 (R244). -/
  | bit2B
  /-- `BIT 2,C`, 0xCB 0x51 (R244). -/
  | bit2C
  /-- `BIT 2,D`, 0xCB 0x52 (R244). -/
  | bit2D
  /-- `BIT 2,E`, 0xCB 0x53 (R244). -/
  | bit2E
  /-- `BIT 2,H`, 0xCB 0x54 (R244). -/
  | bit2H
  /-- `BIT 2,L`, 0xCB 0x55 (R244). -/
  | bit2L
  /-- `BIT 2,(HL)`, 0xCB 0x56 (R244). -/
  | bit2AtHl
  /-- `BIT 2,A`, 0xCB 0x57 (R244). -/
  | bit2A
  /-- `BIT 3,B`, 0xCB 0x58 (R244). -/
  | bit3B
  /-- `BIT 3,C`, 0xCB 0x59 (R244). -/
  | bit3C
  /-- `BIT 3,D`, 0xCB 0x5A (R244). -/
  | bit3D
  /-- `BIT 3,E`, 0xCB 0x5B (R244). -/
  | bit3E
  /-- `BIT 3,H`, 0xCB 0x5C (R244). -/
  | bit3H
  /-- `BIT 3,L`, 0xCB 0x5D (R244). -/
  | bit3L
  /-- `BIT 3,(HL)`, 0xCB 0x5E (R244). -/
  | bit3AtHl
  /-- `BIT 3,A`, 0xCB 0x5F (R244). -/
  | bit3A
  /-- `BIT 4,B`, 0xCB 0x60 (R244). -/
  | bit4B
  /-- `BIT 4,C`, 0xCB 0x61 (R244). -/
  | bit4C
  /-- `BIT 4,D`, 0xCB 0x62 (R244). -/
  | bit4D
  /-- `BIT 4,E`, 0xCB 0x63 (R244). -/
  | bit4E
  /-- `BIT 4,H`, 0xCB 0x64 (R244). -/
  | bit4H
  /-- `BIT 4,L`, 0xCB 0x65 (R244). -/
  | bit4L
  /-- `BIT 4,(HL)`, 0xCB 0x66 (R244). -/
  | bit4AtHl
  /-- `BIT 4,A`, 0xCB 0x67 (R244). -/
  | bit4A
  /-- `BIT 5,B`, 0xCB 0x68 (R244). -/
  | bit5B
  /-- `BIT 5,C`, 0xCB 0x69 (R244). -/
  | bit5C
  /-- `BIT 5,D`, 0xCB 0x6A (R244). -/
  | bit5D
  /-- `BIT 5,E`, 0xCB 0x6B (R244). -/
  | bit5E
  /-- `BIT 5,H`, 0xCB 0x6C (R244). -/
  | bit5H
  /-- `BIT 5,L`, 0xCB 0x6D (R244). -/
  | bit5L
  /-- `BIT 5,(HL)`, 0xCB 0x6E (R244). -/
  | bit5AtHl
  /-- `BIT 5,A`, 0xCB 0x6F (R244). -/
  | bit5A
  /-- `BIT 6,B`, 0xCB 0x70 (R244). -/
  | bit6B
  /-- `BIT 6,C`, 0xCB 0x71 (R244). -/
  | bit6C
  /-- `BIT 6,D`, 0xCB 0x72 (R244). -/
  | bit6D
  /-- `BIT 6,E`, 0xCB 0x73 (R244). -/
  | bit6E
  /-- `BIT 6,H`, 0xCB 0x74 (R244). -/
  | bit6H
  /-- `BIT 6,L`, 0xCB 0x75 (R244). -/
  | bit6L
  /-- `BIT 6,(HL)`, 0xCB 0x76 (R244). -/
  | bit6AtHl
  /-- `BIT 6,A`, 0xCB 0x77 (R244). -/
  | bit6A
  /-- `BIT 7,B`, 0xCB 0x78 (R244). -/
  | bit7B
  /-- `BIT 7,C`, 0xCB 0x79 (R244). -/
  | bit7C
  /-- `BIT 7,D`, 0xCB 0x7A (R244). -/
  | bit7D
  /-- `BIT 7,E`, 0xCB 0x7B (R244). -/
  | bit7E
  /-- `BIT 7,H`, 0xCB 0x7C (R244). -/
  | bit7H
  /-- `BIT 7,L`, 0xCB 0x7D (R244). -/
  | bit7L
  /-- `BIT 7,(HL)`, 0xCB 0x7E (R244). -/
  | bit7AtHl
  /-- `BIT 7,A`, 0xCB 0x7F (R244). -/
  | bit7A
  /-- `RES 0,B`, 0xCB 0x80 (R245). -/
  | res0B
  /-- `RES 0,C`, 0xCB 0x81 (R245). -/
  | res0C
  /-- `RES 0,D`, 0xCB 0x82 (R245). -/
  | res0D
  /-- `RES 0,E`, 0xCB 0x83 (R245). -/
  | res0E
  /-- `RES 0,H`, 0xCB 0x84 (R245). -/
  | res0H
  /-- `RES 0,L`, 0xCB 0x85 (R245). -/
  | res0L
  /-- `RES 0,(HL)`, 0xCB 0x86 (R245). -/
  | res0AtHl
  /-- `RES 0,A`, 0xCB 0x87 (R245). -/
  | res0A
  /-- `RES 1,B`, 0xCB 0x88 (R245). -/
  | res1B
  /-- `RES 1,C`, 0xCB 0x89 (R245). -/
  | res1C
  /-- `RES 1,D`, 0xCB 0x8A (R245). -/
  | res1D
  /-- `RES 1,E`, 0xCB 0x8B (R245). -/
  | res1E
  /-- `RES 1,H`, 0xCB 0x8C (R245). -/
  | res1H
  /-- `RES 1,L`, 0xCB 0x8D (R245). -/
  | res1L
  /-- `RES 1,(HL)`, 0xCB 0x8E (R245). -/
  | res1AtHl
  /-- `RES 1,A`, 0xCB 0x8F (R245). -/
  | res1A
  /-- `RES 2,B`, 0xCB 0x90 (R245). -/
  | res2B
  /-- `RES 2,C`, 0xCB 0x91 (R245). -/
  | res2C
  /-- `RES 2,D`, 0xCB 0x92 (R245). -/
  | res2D
  /-- `RES 2,E`, 0xCB 0x93 (R245). -/
  | res2E
  /-- `RES 2,H`, 0xCB 0x94 (R245). -/
  | res2H
  /-- `RES 2,L`, 0xCB 0x95 (R245). -/
  | res2L
  /-- `RES 2,(HL)`, 0xCB 0x96 (R245). -/
  | res2AtHl
  /-- `RES 2,A`, 0xCB 0x97 (R245). -/
  | res2A
  /-- `RES 3,B`, 0xCB 0x98 (R245). -/
  | res3B
  /-- `RES 3,C`, 0xCB 0x99 (R245). -/
  | res3C
  /-- `RES 3,D`, 0xCB 0x9A (R245). -/
  | res3D
  /-- `RES 3,E`, 0xCB 0x9B (R245). -/
  | res3E
  /-- `RES 3,H`, 0xCB 0x9C (R245). -/
  | res3H
  /-- `RES 3,L`, 0xCB 0x9D (R245). -/
  | res3L
  /-- `RES 3,(HL)`, 0xCB 0x9E (R245). -/
  | res3AtHl
  /-- `RES 3,A`, 0xCB 0x9F (R245). -/
  | res3A
  /-- `RES 4,B`, 0xCB 0xA0 (R245). -/
  | res4B
  /-- `RES 4,C`, 0xCB 0xA1 (R245). -/
  | res4C
  /-- `RES 4,D`, 0xCB 0xA2 (R245). -/
  | res4D
  /-- `RES 4,E`, 0xCB 0xA3 (R245). -/
  | res4E
  /-- `RES 4,H`, 0xCB 0xA4 (R245). -/
  | res4H
  /-- `RES 4,L`, 0xCB 0xA5 (R245). -/
  | res4L
  /-- `RES 4,(HL)`, 0xCB 0xA6 (R245). -/
  | res4AtHl
  /-- `RES 4,A`, 0xCB 0xA7 (R245). -/
  | res4A
  /-- `RES 5,B`, 0xCB 0xA8 (R245). -/
  | res5B
  /-- `RES 5,C`, 0xCB 0xA9 (R245). -/
  | res5C
  /-- `RES 5,D`, 0xCB 0xAA (R245). -/
  | res5D
  /-- `RES 5,E`, 0xCB 0xAB (R245). -/
  | res5E
  /-- `RES 5,H`, 0xCB 0xAC (R245). -/
  | res5H
  /-- `RES 5,L`, 0xCB 0xAD (R245). -/
  | res5L
  /-- `RES 5,(HL)`, 0xCB 0xAE (R245). -/
  | res5AtHl
  /-- `RES 5,A`, 0xCB 0xAF (R245). -/
  | res5A
  /-- `RES 6,B`, 0xCB 0xB0 (R245). -/
  | res6B
  /-- `RES 6,C`, 0xCB 0xB1 (R245). -/
  | res6C
  /-- `RES 6,D`, 0xCB 0xB2 (R245). -/
  | res6D
  /-- `RES 6,E`, 0xCB 0xB3 (R245). -/
  | res6E
  /-- `RES 6,H`, 0xCB 0xB4 (R245). -/
  | res6H
  /-- `RES 6,L`, 0xCB 0xB5 (R245). -/
  | res6L
  /-- `RES 6,(HL)`, 0xCB 0xB6 (R245). -/
  | res6AtHl
  /-- `RES 6,A`, 0xCB 0xB7 (R245). -/
  | res6A
  /-- `RES 7,B`, 0xCB 0xB8 (R245). -/
  | res7B
  /-- `RES 7,C`, 0xCB 0xB9 (R245). -/
  | res7C
  /-- `RES 7,D`, 0xCB 0xBA (R245). -/
  | res7D
  /-- `RES 7,E`, 0xCB 0xBB (R245). -/
  | res7E
  /-- `RES 7,H`, 0xCB 0xBC (R245). -/
  | res7H
  /-- `RES 7,L`, 0xCB 0xBD (R245). -/
  | res7L
  /-- `RES 7,(HL)`, 0xCB 0xBE (R245). -/
  | res7AtHl
  /-- `RES 7,A`, 0xCB 0xBF (R245). -/
  | res7A
  /-- `SET 0,B`, 0xCB 0xC0 (R246). -/
  | set0B
  /-- `SET 0,C`, 0xCB 0xC1 (R246). -/
  | set0C
  /-- `SET 0,D`, 0xCB 0xC2 (R246). -/
  | set0D
  /-- `SET 0,E`, 0xCB 0xC3 (R246). -/
  | set0E
  /-- `SET 0,H`, 0xCB 0xC4 (R246). -/
  | set0H
  /-- `SET 0,L`, 0xCB 0xC5 (R246). -/
  | set0L
  /-- `SET 0,(HL)`, 0xCB 0xC6 (R246). -/
  | set0AtHl
  /-- `SET 0,A`, 0xCB 0xC7 (R246). -/
  | set0A
  /-- `SET 1,B`, 0xCB 0xC8 (R246). -/
  | set1B
  /-- `SET 1,C`, 0xCB 0xC9 (R246). -/
  | set1C
  /-- `SET 1,D`, 0xCB 0xCA (R246). -/
  | set1D
  /-- `SET 1,E`, 0xCB 0xCB (R246). -/
  | set1E
  /-- `SET 1,H`, 0xCB 0xCC (R246). -/
  | set1H
  /-- `SET 1,L`, 0xCB 0xCD (R246). -/
  | set1L
  /-- `SET 1,(HL)`, 0xCB 0xCE (R246). -/
  | set1AtHl
  /-- `SET 1,A`, 0xCB 0xCF (R246). -/
  | set1A
  /-- `SET 2,B`, 0xCB 0xD0 (R246). -/
  | set2B
  /-- `SET 2,C`, 0xCB 0xD1 (R246). -/
  | set2C
  /-- `SET 2,D`, 0xCB 0xD2 (R246). -/
  | set2D
  /-- `SET 2,E`, 0xCB 0xD3 (R246). -/
  | set2E
  /-- `SET 2,H`, 0xCB 0xD4 (R246). -/
  | set2H
  /-- `SET 2,L`, 0xCB 0xD5 (R246). -/
  | set2L
  /-- `SET 2,(HL)`, 0xCB 0xD6 (R246). -/
  | set2AtHl
  /-- `SET 2,A`, 0xCB 0xD7 (R246). -/
  | set2A
  /-- `SET 3,B`, 0xCB 0xD8 (R246). -/
  | set3B
  /-- `SET 3,C`, 0xCB 0xD9 (R246). -/
  | set3C
  /-- `SET 3,D`, 0xCB 0xDA (R246). -/
  | set3D
  /-- `SET 3,E`, 0xCB 0xDB (R246). -/
  | set3E
  /-- `SET 3,H`, 0xCB 0xDC (R246). -/
  | set3H
  /-- `SET 3,L`, 0xCB 0xDD (R246). -/
  | set3L
  /-- `SET 3,(HL)`, 0xCB 0xDE (R246). -/
  | set3AtHl
  /-- `SET 3,A`, 0xCB 0xDF (R246). -/
  | set3A
  /-- `SET 4,B`, 0xCB 0xE0 (R246). -/
  | set4B
  /-- `SET 4,C`, 0xCB 0xE1 (R246). -/
  | set4C
  /-- `SET 4,D`, 0xCB 0xE2 (R246). -/
  | set4D
  /-- `SET 4,E`, 0xCB 0xE3 (R246). -/
  | set4E
  /-- `SET 4,H`, 0xCB 0xE4 (R246). -/
  | set4H
  /-- `SET 4,L`, 0xCB 0xE5 (R246). -/
  | set4L
  /-- `SET 4,(HL)`, 0xCB 0xE6 (R246). -/
  | set4AtHl
  /-- `SET 4,A`, 0xCB 0xE7 (R246). -/
  | set4A
  /-- `SET 5,B`, 0xCB 0xE8 (R246). -/
  | set5B
  /-- `SET 5,C`, 0xCB 0xE9 (R246). -/
  | set5C
  /-- `SET 5,D`, 0xCB 0xEA (R246). -/
  | set5D
  /-- `SET 5,E`, 0xCB 0xEB (R246). -/
  | set5E
  /-- `SET 5,H`, 0xCB 0xEC (R246). -/
  | set5H
  /-- `SET 5,L`, 0xCB 0xED (R246). -/
  | set5L
  /-- `SET 5,(HL)`, 0xCB 0xEE (R246). -/
  | set5AtHl
  /-- `SET 5,A`, 0xCB 0xEF (R246). -/
  | set5A
  /-- `SET 6,B`, 0xCB 0xF0 (R246). -/
  | set6B
  /-- `SET 6,C`, 0xCB 0xF1 (R246). -/
  | set6C
  /-- `SET 6,D`, 0xCB 0xF2 (R246). -/
  | set6D
  /-- `SET 6,E`, 0xCB 0xF3 (R246). -/
  | set6E
  /-- `SET 6,H`, 0xCB 0xF4 (R246). -/
  | set6H
  /-- `SET 6,L`, 0xCB 0xF5 (R246). -/
  | set6L
  /-- `SET 6,(HL)`, 0xCB 0xF6 (R246). -/
  | set6AtHl
  /-- `SET 6,A`, 0xCB 0xF7 (R246). -/
  | set6A
  /-- `SET 7,B`, 0xCB 0xF8 (R246). -/
  | set7B
  /-- `SET 7,C`, 0xCB 0xF9 (R246). -/
  | set7C
  /-- `SET 7,D`, 0xCB 0xFA (R246). -/
  | set7D
  /-- `SET 7,E`, 0xCB 0xFB (R246). -/
  | set7E
  /-- `SET 7,H`, 0xCB 0xFC (R246). -/
  | set7H
  /-- `SET 7,L`, 0xCB 0xFD (R246). -/
  | set7L
  /-- `SET 7,(HL)`, 0xCB 0xFE (R246). -/
  | set7AtHl
  /-- `SET 7,A`, 0xCB 0xFF (R246). -/
  | set7A
  deriving DecidableEq, Repr

end Sys2Proof
end

