-- ==== Sys2Proof/WellFormed.lean ====
section
/-! DEFINITION. Which terms of `Instr` are whole instructions. Every operand field is as wide as its encoding, so
the one term to refuse is the bare escape: 0xCB and the byte after it form one instruction, and every secondary
byte has a constructor of its own (30_encoding.md R100, 45_system.md R306). -/

namespace Sys2Proof

/-- Why a term is no whole instruction. -/
inductive IllFormed where
  /-- The escape 0xCB stands for itself; the instruction is the secondary row's (45_system.md R306, log 16). -/
  | bareEscape
  deriving DecidableEq, Repr

/-- The reason a term is ill-formed, if any. -/
def Instr.illFormed : Instr → Option IllFormed
  | .prefixCb _ => some .bareEscape
  | .nop => none
  | .ldBcD16 _ => none
  | .ldAtBcA => none
  | .incBc => none
  | .incB => none
  | .decB => none
  | .ldBD8 _ => none
  | .rlca => none
  | .ldAtA16Sp _ => none
  | .addHlBc => none
  | .ldAAtBc => none
  | .decBc => none
  | .incC => none
  | .decC => none
  | .ldCD8 _ => none
  | .rrca => none
  | .stop _ => none
  | .ldDeD16 _ => none
  | .ldAtDeA => none
  | .incDe => none
  | .incD => none
  | .decD => none
  | .ldDD8 _ => none
  | .rla => none
  | .jrE8 _ => none
  | .addHlDe => none
  | .ldAAtDe => none
  | .decDe => none
  | .incE => none
  | .decE => none
  | .ldED8 _ => none
  | .rra => none
  | .jrNzE8 _ => none
  | .ldHlD16 _ => none
  | .ldAtHlIncA => none
  | .incHl => none
  | .incH => none
  | .decH => none
  | .ldHD8 _ => none
  | .daa => none
  | .jrZE8 _ => none
  | .addHlHl => none
  | .ldAAtHlInc => none
  | .decHl => none
  | .incL => none
  | .decL => none
  | .ldLD8 _ => none
  | .cpl => none
  | .jrNcE8 _ => none
  | .ldSpD16 _ => none
  | .ldAtHlDecA => none
  | .incSp => none
  | .incAtHl => none
  | .decAtHl => none
  | .ldAtHlD8 _ => none
  | .scf => none
  | .jrCE8 _ => none
  | .addHlSp => none
  | .ldAAtHlDec => none
  | .decSp => none
  | .incA => none
  | .decA => none
  | .ldAD8 _ => none
  | .ccf => none
  | .ldBB => none
  | .ldBC => none
  | .ldBD => none
  | .ldBE => none
  | .ldBH => none
  | .ldBL => none
  | .ldBAtHl => none
  | .ldBA => none
  | .ldCB => none
  | .ldCC => none
  | .ldCD => none
  | .ldCE => none
  | .ldCH => none
  | .ldCL => none
  | .ldCAtHl => none
  | .ldCA => none
  | .ldDB => none
  | .ldDC => none
  | .ldDD => none
  | .ldDE => none
  | .ldDH => none
  | .ldDL => none
  | .ldDAtHl => none
  | .ldDA => none
  | .ldEB => none
  | .ldEC => none
  | .ldED => none
  | .ldEE => none
  | .ldEH => none
  | .ldEL => none
  | .ldEAtHl => none
  | .ldEA => none
  | .ldHB => none
  | .ldHC => none
  | .ldHD => none
  | .ldHE => none
  | .ldHH => none
  | .ldHL => none
  | .ldHAtHl => none
  | .ldHA => none
  | .ldLB => none
  | .ldLC => none
  | .ldLD => none
  | .ldLE => none
  | .ldLH => none
  | .ldLL => none
  | .ldLAtHl => none
  | .ldLA => none
  | .ldAtHlB => none
  | .ldAtHlC => none
  | .ldAtHlD => none
  | .ldAtHlE => none
  | .ldAtHlH => none
  | .ldAtHlL => none
  | .halt => none
  | .ldAtHlA => none
  | .ldAB => none
  | .ldAC => none
  | .ldAD => none
  | .ldAE => none
  | .ldAH => none
  | .ldAL => none
  | .ldAAtHl => none
  | .ldAA => none
  | .addAB => none
  | .addAC => none
  | .addAD => none
  | .addAE => none
  | .addAH => none
  | .addAL => none
  | .addAAtHl => none
  | .addAA => none
  | .adcAB => none
  | .adcAC => none
  | .adcAD => none
  | .adcAE => none
  | .adcAH => none
  | .adcAL => none
  | .adcAAtHl => none
  | .adcAA => none
  | .subAB => none
  | .subAC => none
  | .subAD => none
  | .subAE => none
  | .subAH => none
  | .subAL => none
  | .subAAtHl => none
  | .subAA => none
  | .sbcAB => none
  | .sbcAC => none
  | .sbcAD => none
  | .sbcAE => none
  | .sbcAH => none
  | .sbcAL => none
  | .sbcAAtHl => none
  | .sbcAA => none
  | .andAB => none
  | .andAC => none
  | .andAD => none
  | .andAE => none
  | .andAH => none
  | .andAL => none
  | .andAAtHl => none
  | .andAA => none
  | .xorAB => none
  | .xorAC => none
  | .xorAD => none
  | .xorAE => none
  | .xorAH => none
  | .xorAL => none
  | .xorAAtHl => none
  | .xorAA => none
  | .orAB => none
  | .orAC => none
  | .orAD => none
  | .orAE => none
  | .orAH => none
  | .orAL => none
  | .orAAtHl => none
  | .orAA => none
  | .cpAB => none
  | .cpAC => none
  | .cpAD => none
  | .cpAE => none
  | .cpAH => none
  | .cpAL => none
  | .cpAAtHl => none
  | .cpAA => none
  | .retNz => none
  | .popBc => none
  | .jpNzA16 _ => none
  | .jpA16 _ => none
  | .callNzA16 _ => none
  | .pushBc => none
  | .addAD8 _ => none
  | .rst00 => none
  | .retZ => none
  | .ret => none
  | .jpZA16 _ => none
  | .callZA16 _ => none
  | .callA16 _ => none
  | .adcAD8 _ => none
  | .rst08 => none
  | .retNc => none
  | .popDe => none
  | .jpNcA16 _ => none
  | .illegalD3 => none
  | .callNcA16 _ => none
  | .pushDe => none
  | .subAD8 _ => none
  | .rst10 => none
  | .retC => none
  | .reti => none
  | .jpCA16 _ => none
  | .illegalDB => none
  | .callCA16 _ => none
  | .illegalDD => none
  | .sbcAD8 _ => none
  | .rst18 => none
  | .ldhAtA8A _ => none
  | .popHl => none
  | .ldAtCA => none
  | .illegalE3 => none
  | .illegalE4 => none
  | .pushHl => none
  | .andAD8 _ => none
  | .rst20 => none
  | .addSpE8 _ => none
  | .jpHl => none
  | .ldAtA16A _ => none
  | .illegalEB => none
  | .illegalEC => none
  | .illegalED => none
  | .xorAD8 _ => none
  | .rst28 => none
  | .ldhAAtA8 _ => none
  | .popAf => none
  | .ldAAtC => none
  | .di => none
  | .illegalF4 => none
  | .pushAf => none
  | .orAD8 _ => none
  | .rst30 => none
  | .ldHlSpE8 _ => none
  | .ldSpHl => none
  | .ldAAtA16 _ => none
  | .ei => none
  | .illegalFC => none
  | .illegalFD => none
  | .cpAD8 _ => none
  | .rst38 => none
  | .rlcB => none
  | .rlcC => none
  | .rlcD => none
  | .rlcE => none
  | .rlcH => none
  | .rlcL => none
  | .rlcAtHl => none
  | .rlcA => none
  | .rrcB => none
  | .rrcC => none
  | .rrcD => none
  | .rrcE => none
  | .rrcH => none
  | .rrcL => none
  | .rrcAtHl => none
  | .rrcA => none
  | .rlB => none
  | .rlC => none
  | .rlD => none
  | .rlE => none
  | .rlH => none
  | .rlL => none
  | .rlAtHl => none
  | .rlA => none
  | .rrB => none
  | .rrC => none
  | .rrD => none
  | .rrE => none
  | .rrH => none
  | .rrL => none
  | .rrAtHl => none
  | .rrA => none
  | .slaB => none
  | .slaC => none
  | .slaD => none
  | .slaE => none
  | .slaH => none
  | .slaL => none
  | .slaAtHl => none
  | .slaA => none
  | .sraB => none
  | .sraC => none
  | .sraD => none
  | .sraE => none
  | .sraH => none
  | .sraL => none
  | .sraAtHl => none
  | .sraA => none
  | .swapB => none
  | .swapC => none
  | .swapD => none
  | .swapE => none
  | .swapH => none
  | .swapL => none
  | .swapAtHl => none
  | .swapA => none
  | .srlB => none
  | .srlC => none
  | .srlD => none
  | .srlE => none
  | .srlH => none
  | .srlL => none
  | .srlAtHl => none
  | .srlA => none
  | .bit0B => none
  | .bit0C => none
  | .bit0D => none
  | .bit0E => none
  | .bit0H => none
  | .bit0L => none
  | .bit0AtHl => none
  | .bit0A => none
  | .bit1B => none
  | .bit1C => none
  | .bit1D => none
  | .bit1E => none
  | .bit1H => none
  | .bit1L => none
  | .bit1AtHl => none
  | .bit1A => none
  | .bit2B => none
  | .bit2C => none
  | .bit2D => none
  | .bit2E => none
  | .bit2H => none
  | .bit2L => none
  | .bit2AtHl => none
  | .bit2A => none
  | .bit3B => none
  | .bit3C => none
  | .bit3D => none
  | .bit3E => none
  | .bit3H => none
  | .bit3L => none
  | .bit3AtHl => none
  | .bit3A => none
  | .bit4B => none
  | .bit4C => none
  | .bit4D => none
  | .bit4E => none
  | .bit4H => none
  | .bit4L => none
  | .bit4AtHl => none
  | .bit4A => none
  | .bit5B => none
  | .bit5C => none
  | .bit5D => none
  | .bit5E => none
  | .bit5H => none
  | .bit5L => none
  | .bit5AtHl => none
  | .bit5A => none
  | .bit6B => none
  | .bit6C => none
  | .bit6D => none
  | .bit6E => none
  | .bit6H => none
  | .bit6L => none
  | .bit6AtHl => none
  | .bit6A => none
  | .bit7B => none
  | .bit7C => none
  | .bit7D => none
  | .bit7E => none
  | .bit7H => none
  | .bit7L => none
  | .bit7AtHl => none
  | .bit7A => none
  | .res0B => none
  | .res0C => none
  | .res0D => none
  | .res0E => none
  | .res0H => none
  | .res0L => none
  | .res0AtHl => none
  | .res0A => none
  | .res1B => none
  | .res1C => none
  | .res1D => none
  | .res1E => none
  | .res1H => none
  | .res1L => none
  | .res1AtHl => none
  | .res1A => none
  | .res2B => none
  | .res2C => none
  | .res2D => none
  | .res2E => none
  | .res2H => none
  | .res2L => none
  | .res2AtHl => none
  | .res2A => none
  | .res3B => none
  | .res3C => none
  | .res3D => none
  | .res3E => none
  | .res3H => none
  | .res3L => none
  | .res3AtHl => none
  | .res3A => none
  | .res4B => none
  | .res4C => none
  | .res4D => none
  | .res4E => none
  | .res4H => none
  | .res4L => none
  | .res4AtHl => none
  | .res4A => none
  | .res5B => none
  | .res5C => none
  | .res5D => none
  | .res5E => none
  | .res5H => none
  | .res5L => none
  | .res5AtHl => none
  | .res5A => none
  | .res6B => none
  | .res6C => none
  | .res6D => none
  | .res6E => none
  | .res6H => none
  | .res6L => none
  | .res6AtHl => none
  | .res6A => none
  | .res7B => none
  | .res7C => none
  | .res7D => none
  | .res7E => none
  | .res7H => none
  | .res7L => none
  | .res7AtHl => none
  | .res7A => none
  | .set0B => none
  | .set0C => none
  | .set0D => none
  | .set0E => none
  | .set0H => none
  | .set0L => none
  | .set0AtHl => none
  | .set0A => none
  | .set1B => none
  | .set1C => none
  | .set1D => none
  | .set1E => none
  | .set1H => none
  | .set1L => none
  | .set1AtHl => none
  | .set1A => none
  | .set2B => none
  | .set2C => none
  | .set2D => none
  | .set2E => none
  | .set2H => none
  | .set2L => none
  | .set2AtHl => none
  | .set2A => none
  | .set3B => none
  | .set3C => none
  | .set3D => none
  | .set3E => none
  | .set3H => none
  | .set3L => none
  | .set3AtHl => none
  | .set3A => none
  | .set4B => none
  | .set4C => none
  | .set4D => none
  | .set4E => none
  | .set4H => none
  | .set4L => none
  | .set4AtHl => none
  | .set4A => none
  | .set5B => none
  | .set5C => none
  | .set5D => none
  | .set5E => none
  | .set5H => none
  | .set5L => none
  | .set5AtHl => none
  | .set5A => none
  | .set6B => none
  | .set6C => none
  | .set6D => none
  | .set6E => none
  | .set6H => none
  | .set6L => none
  | .set6AtHl => none
  | .set6A => none
  | .set7B => none
  | .set7C => none
  | .set7D => none
  | .set7E => none
  | .set7H => none
  | .set7L => none
  | .set7AtHl => none
  | .set7A => none

/-- A whole instruction. -/
def Instr.wellFormed (i : Instr) : Bool := i.illFormed.isNone

end Sys2Proof
end

