-- ==== Sys2Proof/Decode.lean ====
section
/-! DEFINITION. From bytes to an instruction and back. The decoder is the two opcode maps of 30_encoding.md R113
and R114, a row of sixteen cells for each high nibble, read by the algorithm of R116; the encoder is written
cell by cell from the match column of spec/opcode_table.json. -/

namespace Sys2Proof

/-- Why a run of bytes is no instruction. Every whole run decodes (30_encoding.md R116), so the only reason is
that bytes are missing. -/
inductive DecodeError where
  /-- There is no opcode byte. -/
  | noOpcode
  /-- The opcode's further bytes are missing. -/
  | missingOperand (opcode : Byte)
  deriving DecidableEq, Repr

/-- A 16-bit immediate, low byte first (30_encoding.md R106). -/
def imm16 (lo hi : Byte) : Word := hi ++ lo

/-- The low byte of an immediate, the second byte of its instruction. -/
def immLo (w : Word) : Byte := w.extractLsb' 0 8

/-- The high byte of an immediate, the third byte of its instruction. -/
def immHi (w : Word) : Byte := w.extractLsb' 8 8

/-- A cell of the primary map (30_encoding.md R113) by its format (R101): F1; F2d, F2e, F2a and F2s; F3d and F3a;
FCB. -/
inductive Cell where
  | one (i : Instr)
  | two (k : Byte → Instr)
  | three (k : Word → Instr)
  | escape

/-- Primary opcodes 0x00 to 0x0F (30_encoding.md R113). -/
def primaryRow0 : List Cell :=
  [ .one .nop,
    .three .ldBcD16,
    .one .ldAtBcA,
    .one .incBc,
    .one .incB,
    .one .decB,
    .two .ldBD8,
    .one .rlca,
    .three .ldAtA16Sp,
    .one .addHlBc,
    .one .ldAAtBc,
    .one .decBc,
    .one .incC,
    .one .decC,
    .two .ldCD8,
    .one .rrca ]

/-- Primary opcodes 0x10 to 0x1F (30_encoding.md R113). -/
def primaryRow1 : List Cell :=
  [ .two .stop,
    .three .ldDeD16,
    .one .ldAtDeA,
    .one .incDe,
    .one .incD,
    .one .decD,
    .two .ldDD8,
    .one .rla,
    .two .jrE8,
    .one .addHlDe,
    .one .ldAAtDe,
    .one .decDe,
    .one .incE,
    .one .decE,
    .two .ldED8,
    .one .rra ]

/-- Primary opcodes 0x20 to 0x2F (30_encoding.md R113). -/
def primaryRow2 : List Cell :=
  [ .two .jrNzE8,
    .three .ldHlD16,
    .one .ldAtHlIncA,
    .one .incHl,
    .one .incH,
    .one .decH,
    .two .ldHD8,
    .one .daa,
    .two .jrZE8,
    .one .addHlHl,
    .one .ldAAtHlInc,
    .one .decHl,
    .one .incL,
    .one .decL,
    .two .ldLD8,
    .one .cpl ]

/-- Primary opcodes 0x30 to 0x3F (30_encoding.md R113). -/
def primaryRow3 : List Cell :=
  [ .two .jrNcE8,
    .three .ldSpD16,
    .one .ldAtHlDecA,
    .one .incSp,
    .one .incAtHl,
    .one .decAtHl,
    .two .ldAtHlD8,
    .one .scf,
    .two .jrCE8,
    .one .addHlSp,
    .one .ldAAtHlDec,
    .one .decSp,
    .one .incA,
    .one .decA,
    .two .ldAD8,
    .one .ccf ]

/-- Primary opcodes 0x40 to 0x4F (30_encoding.md R113). -/
def primaryRow4 : List Cell :=
  [ .one .ldBB,
    .one .ldBC,
    .one .ldBD,
    .one .ldBE,
    .one .ldBH,
    .one .ldBL,
    .one .ldBAtHl,
    .one .ldBA,
    .one .ldCB,
    .one .ldCC,
    .one .ldCD,
    .one .ldCE,
    .one .ldCH,
    .one .ldCL,
    .one .ldCAtHl,
    .one .ldCA ]

/-- Primary opcodes 0x50 to 0x5F (30_encoding.md R113). -/
def primaryRow5 : List Cell :=
  [ .one .ldDB,
    .one .ldDC,
    .one .ldDD,
    .one .ldDE,
    .one .ldDH,
    .one .ldDL,
    .one .ldDAtHl,
    .one .ldDA,
    .one .ldEB,
    .one .ldEC,
    .one .ldED,
    .one .ldEE,
    .one .ldEH,
    .one .ldEL,
    .one .ldEAtHl,
    .one .ldEA ]

/-- Primary opcodes 0x60 to 0x6F (30_encoding.md R113). -/
def primaryRow6 : List Cell :=
  [ .one .ldHB,
    .one .ldHC,
    .one .ldHD,
    .one .ldHE,
    .one .ldHH,
    .one .ldHL,
    .one .ldHAtHl,
    .one .ldHA,
    .one .ldLB,
    .one .ldLC,
    .one .ldLD,
    .one .ldLE,
    .one .ldLH,
    .one .ldLL,
    .one .ldLAtHl,
    .one .ldLA ]

/-- Primary opcodes 0x70 to 0x7F (30_encoding.md R113). -/
def primaryRow7 : List Cell :=
  [ .one .ldAtHlB,
    .one .ldAtHlC,
    .one .ldAtHlD,
    .one .ldAtHlE,
    .one .ldAtHlH,
    .one .ldAtHlL,
    .one .halt,
    .one .ldAtHlA,
    .one .ldAB,
    .one .ldAC,
    .one .ldAD,
    .one .ldAE,
    .one .ldAH,
    .one .ldAL,
    .one .ldAAtHl,
    .one .ldAA ]

/-- Primary opcodes 0x80 to 0x8F (30_encoding.md R113). -/
def primaryRow8 : List Cell :=
  [ .one .addAB,
    .one .addAC,
    .one .addAD,
    .one .addAE,
    .one .addAH,
    .one .addAL,
    .one .addAAtHl,
    .one .addAA,
    .one .adcAB,
    .one .adcAC,
    .one .adcAD,
    .one .adcAE,
    .one .adcAH,
    .one .adcAL,
    .one .adcAAtHl,
    .one .adcAA ]

/-- Primary opcodes 0x90 to 0x9F (30_encoding.md R113). -/
def primaryRow9 : List Cell :=
  [ .one .subAB,
    .one .subAC,
    .one .subAD,
    .one .subAE,
    .one .subAH,
    .one .subAL,
    .one .subAAtHl,
    .one .subAA,
    .one .sbcAB,
    .one .sbcAC,
    .one .sbcAD,
    .one .sbcAE,
    .one .sbcAH,
    .one .sbcAL,
    .one .sbcAAtHl,
    .one .sbcAA ]

/-- Primary opcodes 0xA0 to 0xAF (30_encoding.md R113). -/
def primaryRowA : List Cell :=
  [ .one .andAB,
    .one .andAC,
    .one .andAD,
    .one .andAE,
    .one .andAH,
    .one .andAL,
    .one .andAAtHl,
    .one .andAA,
    .one .xorAB,
    .one .xorAC,
    .one .xorAD,
    .one .xorAE,
    .one .xorAH,
    .one .xorAL,
    .one .xorAAtHl,
    .one .xorAA ]

/-- Primary opcodes 0xB0 to 0xBF (30_encoding.md R113). -/
def primaryRowB : List Cell :=
  [ .one .orAB,
    .one .orAC,
    .one .orAD,
    .one .orAE,
    .one .orAH,
    .one .orAL,
    .one .orAAtHl,
    .one .orAA,
    .one .cpAB,
    .one .cpAC,
    .one .cpAD,
    .one .cpAE,
    .one .cpAH,
    .one .cpAL,
    .one .cpAAtHl,
    .one .cpAA ]

/-- Primary opcodes 0xC0 to 0xCF (30_encoding.md R113). -/
def primaryRowC : List Cell :=
  [ .one .retNz,
    .one .popBc,
    .three .jpNzA16,
    .three .jpA16,
    .three .callNzA16,
    .one .pushBc,
    .two .addAD8,
    .one .rst00,
    .one .retZ,
    .one .ret,
    .three .jpZA16,
    .escape,
    .three .callZA16,
    .three .callA16,
    .two .adcAD8,
    .one .rst08 ]

/-- Primary opcodes 0xD0 to 0xDF (30_encoding.md R113). -/
def primaryRowD : List Cell :=
  [ .one .retNc,
    .one .popDe,
    .three .jpNcA16,
    .one .illegalD3,
    .three .callNcA16,
    .one .pushDe,
    .two .subAD8,
    .one .rst10,
    .one .retC,
    .one .reti,
    .three .jpCA16,
    .one .illegalDB,
    .three .callCA16,
    .one .illegalDD,
    .two .sbcAD8,
    .one .rst18 ]

/-- Primary opcodes 0xE0 to 0xEF (30_encoding.md R113). -/
def primaryRowE : List Cell :=
  [ .two .ldhAtA8A,
    .one .popHl,
    .one .ldAtCA,
    .one .illegalE3,
    .one .illegalE4,
    .one .pushHl,
    .two .andAD8,
    .one .rst20,
    .two .addSpE8,
    .one .jpHl,
    .three .ldAtA16A,
    .one .illegalEB,
    .one .illegalEC,
    .one .illegalED,
    .two .xorAD8,
    .one .rst28 ]

/-- Primary opcodes 0xF0 to 0xFF (30_encoding.md R113). -/
def primaryRowF : List Cell :=
  [ .two .ldhAAtA8,
    .one .popAf,
    .one .ldAAtC,
    .one .di,
    .one .illegalF4,
    .one .pushAf,
    .two .orAD8,
    .one .rst30,
    .two .ldHlSpE8,
    .one .ldSpHl,
    .three .ldAAtA16,
    .one .ei,
    .one .illegalFC,
    .one .illegalFD,
    .two .cpAD8,
    .one .rst38 ]

/-- The primary map, by high nibble (30_encoding.md R113). -/
def primaryMap : List (List Cell) :=
  [ primaryRow0, primaryRow1, primaryRow2, primaryRow3, primaryRow4, primaryRow5, primaryRow6, primaryRow7,
    primaryRow8, primaryRow9, primaryRowA, primaryRowB, primaryRowC, primaryRowD, primaryRowE, primaryRowF ]

/-- Secondary opcodes 0x00 to 0x0F (30_encoding.md R114). -/
def secondaryRow0 : List Instr :=
  [ .rlcB, .rlcC, .rlcD, .rlcE, .rlcH, .rlcL, .rlcAtHl, .rlcA,
    .rrcB, .rrcC, .rrcD, .rrcE, .rrcH, .rrcL, .rrcAtHl, .rrcA ]

/-- Secondary opcodes 0x10 to 0x1F (30_encoding.md R114). -/
def secondaryRow1 : List Instr :=
  [ .rlB, .rlC, .rlD, .rlE, .rlH, .rlL, .rlAtHl, .rlA,
    .rrB, .rrC, .rrD, .rrE, .rrH, .rrL, .rrAtHl, .rrA ]

/-- Secondary opcodes 0x20 to 0x2F (30_encoding.md R114). -/
def secondaryRow2 : List Instr :=
  [ .slaB, .slaC, .slaD, .slaE, .slaH, .slaL, .slaAtHl, .slaA,
    .sraB, .sraC, .sraD, .sraE, .sraH, .sraL, .sraAtHl, .sraA ]

/-- Secondary opcodes 0x30 to 0x3F (30_encoding.md R114). -/
def secondaryRow3 : List Instr :=
  [ .swapB, .swapC, .swapD, .swapE, .swapH, .swapL, .swapAtHl, .swapA,
    .srlB, .srlC, .srlD, .srlE, .srlH, .srlL, .srlAtHl, .srlA ]

/-- Secondary opcodes 0x40 to 0x4F (30_encoding.md R114). -/
def secondaryRow4 : List Instr :=
  [ .bit0B, .bit0C, .bit0D, .bit0E, .bit0H, .bit0L, .bit0AtHl, .bit0A,
    .bit1B, .bit1C, .bit1D, .bit1E, .bit1H, .bit1L, .bit1AtHl, .bit1A ]

/-- Secondary opcodes 0x50 to 0x5F (30_encoding.md R114). -/
def secondaryRow5 : List Instr :=
  [ .bit2B, .bit2C, .bit2D, .bit2E, .bit2H, .bit2L, .bit2AtHl, .bit2A,
    .bit3B, .bit3C, .bit3D, .bit3E, .bit3H, .bit3L, .bit3AtHl, .bit3A ]

/-- Secondary opcodes 0x60 to 0x6F (30_encoding.md R114). -/
def secondaryRow6 : List Instr :=
  [ .bit4B, .bit4C, .bit4D, .bit4E, .bit4H, .bit4L, .bit4AtHl, .bit4A,
    .bit5B, .bit5C, .bit5D, .bit5E, .bit5H, .bit5L, .bit5AtHl, .bit5A ]

/-- Secondary opcodes 0x70 to 0x7F (30_encoding.md R114). -/
def secondaryRow7 : List Instr :=
  [ .bit6B, .bit6C, .bit6D, .bit6E, .bit6H, .bit6L, .bit6AtHl, .bit6A,
    .bit7B, .bit7C, .bit7D, .bit7E, .bit7H, .bit7L, .bit7AtHl, .bit7A ]

/-- Secondary opcodes 0x80 to 0x8F (30_encoding.md R114). -/
def secondaryRow8 : List Instr :=
  [ .res0B, .res0C, .res0D, .res0E, .res0H, .res0L, .res0AtHl, .res0A,
    .res1B, .res1C, .res1D, .res1E, .res1H, .res1L, .res1AtHl, .res1A ]

/-- Secondary opcodes 0x90 to 0x9F (30_encoding.md R114). -/
def secondaryRow9 : List Instr :=
  [ .res2B, .res2C, .res2D, .res2E, .res2H, .res2L, .res2AtHl, .res2A,
    .res3B, .res3C, .res3D, .res3E, .res3H, .res3L, .res3AtHl, .res3A ]

/-- Secondary opcodes 0xA0 to 0xAF (30_encoding.md R114). -/
def secondaryRowA : List Instr :=
  [ .res4B, .res4C, .res4D, .res4E, .res4H, .res4L, .res4AtHl, .res4A,
    .res5B, .res5C, .res5D, .res5E, .res5H, .res5L, .res5AtHl, .res5A ]

/-- Secondary opcodes 0xB0 to 0xBF (30_encoding.md R114). -/
def secondaryRowB : List Instr :=
  [ .res6B, .res6C, .res6D, .res6E, .res6H, .res6L, .res6AtHl, .res6A,
    .res7B, .res7C, .res7D, .res7E, .res7H, .res7L, .res7AtHl, .res7A ]

/-- Secondary opcodes 0xC0 to 0xCF (30_encoding.md R114). -/
def secondaryRowC : List Instr :=
  [ .set0B, .set0C, .set0D, .set0E, .set0H, .set0L, .set0AtHl, .set0A,
    .set1B, .set1C, .set1D, .set1E, .set1H, .set1L, .set1AtHl, .set1A ]

/-- Secondary opcodes 0xD0 to 0xDF (30_encoding.md R114). -/
def secondaryRowD : List Instr :=
  [ .set2B, .set2C, .set2D, .set2E, .set2H, .set2L, .set2AtHl, .set2A,
    .set3B, .set3C, .set3D, .set3E, .set3H, .set3L, .set3AtHl, .set3A ]

/-- Secondary opcodes 0xE0 to 0xEF (30_encoding.md R114). -/
def secondaryRowE : List Instr :=
  [ .set4B, .set4C, .set4D, .set4E, .set4H, .set4L, .set4AtHl, .set4A,
    .set5B, .set5C, .set5D, .set5E, .set5H, .set5L, .set5AtHl, .set5A ]

/-- Secondary opcodes 0xF0 to 0xFF (30_encoding.md R114). -/
def secondaryRowF : List Instr :=
  [ .set6B, .set6C, .set6D, .set6E, .set6H, .set6L, .set6AtHl, .set6A,
    .set7B, .set7C, .set7D, .set7E, .set7H, .set7L, .set7AtHl, .set7A ]

/-- The secondary map, by high nibble (30_encoding.md R114). -/
def secondaryMap : List (List Instr) :=
  [ secondaryRow0, secondaryRow1, secondaryRow2, secondaryRow3, secondaryRow4, secondaryRow5, secondaryRow6,
    secondaryRow7, secondaryRow8, secondaryRow9, secondaryRowA, secondaryRowB, secondaryRowC, secondaryRowD,
    secondaryRowE, secondaryRowF ]

/-- The cell of a primary opcode; the default is never used, both maps having sixteen rows of sixteen. -/
def primaryCell (op : Byte) : Cell :=
  ((primaryMap.getD (op.toNat / 16) []).getD (op.toNat % 16) .escape)

/-- The instruction of a secondary opcode (30_encoding.md R114); the default is never used. -/
def secondaryInstr (cb : Byte) : Instr :=
  ((secondaryMap.getD (cb.toNat / 16) []).getD (cb.toNat % 16) (.prefixCb cb))

/-- The length of the instruction a first byte begins (30_encoding.md R101). -/
def instrLength (op : Byte) : Nat :=
  match primaryCell op with
  | .one _ => 1
  | .two _ => 2
  | .three _ => 3
  | .escape => 2

/-- The decoder (30_encoding.md R116): the instruction a run of bytes begins with, and the bytes after it. -/
def decode : List Byte → Except DecodeError (Instr × List Byte)
  | [] => .error .noOpcode
  | op :: rest =>
    match primaryCell op, rest with
    | .one i, _ => .ok (i, rest)
    | .two k, b2 :: r => .ok (k b2, r)
    | .three k, b2 :: b3 :: r => .ok (k (imm16 b2 b3), r)
    | .escape, cb :: r => .ok (secondaryInstr cb, r)
    | .two _, [] => .error (.missingOperand op)
    | .three _, [] => .error (.missingOperand op)
    | .three _, [_] => .error (.missingOperand op)
    | .escape, [] => .error (.missingOperand op)

/-- The bytes of an instruction whose bits are `w` as spec/opcode_table.json numbers them, filled up with zeros to
the longest instruction. A primary row gives its one byte; a secondary row gives two, and the table numbers the
first byte, 0xCB, as bits 15 to 8 and the secondary opcode as bits 7 to 0. Log entry 17. -/
def tableBytes (nbits w : Nat) : List Byte :=
  if nbits > 8 ∧ w / 256 % 256 = 0xCB then [0xCB, BitVec.ofNat 8 w, 0x00]
  else [BitVec.ofNat 8 w, BitVec.ofNat 8 (w / 256), BitVec.ofNat 8 (w / 65536)]

/-- The instruction the decoder reads from a word numbered as the opcode table numbers it. -/
def decodeTableWord (nbits w : Nat) : Option Instr :=
  match decode (tableBytes nbits w) with
  | .ok (i, _) => some i
  | .error _ => none

/-- The bytes of an instruction, the opcode first (30_encoding.md R101, R106; the match column of
spec/opcode_table.json). -/
def encode : Instr → List Byte
  | .nop => [0x00]
  | .ldBcD16 d16 => [0x01, immLo d16, immHi d16]
  | .ldAtBcA => [0x02]
  | .incBc => [0x03]
  | .incB => [0x04]
  | .decB => [0x05]
  | .ldBD8 d8 => [0x06, d8]
  | .rlca => [0x07]
  | .ldAtA16Sp a16 => [0x08, immLo a16, immHi a16]
  | .addHlBc => [0x09]
  | .ldAAtBc => [0x0A]
  | .decBc => [0x0B]
  | .incC => [0x0C]
  | .decC => [0x0D]
  | .ldCD8 d8 => [0x0E, d8]
  | .rrca => [0x0F]
  | .stop ignored => [0x10, ignored]
  | .ldDeD16 d16 => [0x11, immLo d16, immHi d16]
  | .ldAtDeA => [0x12]
  | .incDe => [0x13]
  | .incD => [0x14]
  | .decD => [0x15]
  | .ldDD8 d8 => [0x16, d8]
  | .rla => [0x17]
  | .jrE8 e8 => [0x18, e8]
  | .addHlDe => [0x19]
  | .ldAAtDe => [0x1A]
  | .decDe => [0x1B]
  | .incE => [0x1C]
  | .decE => [0x1D]
  | .ldED8 d8 => [0x1E, d8]
  | .rra => [0x1F]
  | .jrNzE8 e8 => [0x20, e8]
  | .ldHlD16 d16 => [0x21, immLo d16, immHi d16]
  | .ldAtHlIncA => [0x22]
  | .incHl => [0x23]
  | .incH => [0x24]
  | .decH => [0x25]
  | .ldHD8 d8 => [0x26, d8]
  | .daa => [0x27]
  | .jrZE8 e8 => [0x28, e8]
  | .addHlHl => [0x29]
  | .ldAAtHlInc => [0x2A]
  | .decHl => [0x2B]
  | .incL => [0x2C]
  | .decL => [0x2D]
  | .ldLD8 d8 => [0x2E, d8]
  | .cpl => [0x2F]
  | .jrNcE8 e8 => [0x30, e8]
  | .ldSpD16 d16 => [0x31, immLo d16, immHi d16]
  | .ldAtHlDecA => [0x32]
  | .incSp => [0x33]
  | .incAtHl => [0x34]
  | .decAtHl => [0x35]
  | .ldAtHlD8 d8 => [0x36, d8]
  | .scf => [0x37]
  | .jrCE8 e8 => [0x38, e8]
  | .addHlSp => [0x39]
  | .ldAAtHlDec => [0x3A]
  | .decSp => [0x3B]
  | .incA => [0x3C]
  | .decA => [0x3D]
  | .ldAD8 d8 => [0x3E, d8]
  | .ccf => [0x3F]
  | .ldBB => [0x40]
  | .ldBC => [0x41]
  | .ldBD => [0x42]
  | .ldBE => [0x43]
  | .ldBH => [0x44]
  | .ldBL => [0x45]
  | .ldBAtHl => [0x46]
  | .ldBA => [0x47]
  | .ldCB => [0x48]
  | .ldCC => [0x49]
  | .ldCD => [0x4A]
  | .ldCE => [0x4B]
  | .ldCH => [0x4C]
  | .ldCL => [0x4D]
  | .ldCAtHl => [0x4E]
  | .ldCA => [0x4F]
  | .ldDB => [0x50]
  | .ldDC => [0x51]
  | .ldDD => [0x52]
  | .ldDE => [0x53]
  | .ldDH => [0x54]
  | .ldDL => [0x55]
  | .ldDAtHl => [0x56]
  | .ldDA => [0x57]
  | .ldEB => [0x58]
  | .ldEC => [0x59]
  | .ldED => [0x5A]
  | .ldEE => [0x5B]
  | .ldEH => [0x5C]
  | .ldEL => [0x5D]
  | .ldEAtHl => [0x5E]
  | .ldEA => [0x5F]
  | .ldHB => [0x60]
  | .ldHC => [0x61]
  | .ldHD => [0x62]
  | .ldHE => [0x63]
  | .ldHH => [0x64]
  | .ldHL => [0x65]
  | .ldHAtHl => [0x66]
  | .ldHA => [0x67]
  | .ldLB => [0x68]
  | .ldLC => [0x69]
  | .ldLD => [0x6A]
  | .ldLE => [0x6B]
  | .ldLH => [0x6C]
  | .ldLL => [0x6D]
  | .ldLAtHl => [0x6E]
  | .ldLA => [0x6F]
  | .ldAtHlB => [0x70]
  | .ldAtHlC => [0x71]
  | .ldAtHlD => [0x72]
  | .ldAtHlE => [0x73]
  | .ldAtHlH => [0x74]
  | .ldAtHlL => [0x75]
  | .halt => [0x76]
  | .ldAtHlA => [0x77]
  | .ldAB => [0x78]
  | .ldAC => [0x79]
  | .ldAD => [0x7A]
  | .ldAE => [0x7B]
  | .ldAH => [0x7C]
  | .ldAL => [0x7D]
  | .ldAAtHl => [0x7E]
  | .ldAA => [0x7F]
  | .addAB => [0x80]
  | .addAC => [0x81]
  | .addAD => [0x82]
  | .addAE => [0x83]
  | .addAH => [0x84]
  | .addAL => [0x85]
  | .addAAtHl => [0x86]
  | .addAA => [0x87]
  | .adcAB => [0x88]
  | .adcAC => [0x89]
  | .adcAD => [0x8A]
  | .adcAE => [0x8B]
  | .adcAH => [0x8C]
  | .adcAL => [0x8D]
  | .adcAAtHl => [0x8E]
  | .adcAA => [0x8F]
  | .subAB => [0x90]
  | .subAC => [0x91]
  | .subAD => [0x92]
  | .subAE => [0x93]
  | .subAH => [0x94]
  | .subAL => [0x95]
  | .subAAtHl => [0x96]
  | .subAA => [0x97]
  | .sbcAB => [0x98]
  | .sbcAC => [0x99]
  | .sbcAD => [0x9A]
  | .sbcAE => [0x9B]
  | .sbcAH => [0x9C]
  | .sbcAL => [0x9D]
  | .sbcAAtHl => [0x9E]
  | .sbcAA => [0x9F]
  | .andAB => [0xA0]
  | .andAC => [0xA1]
  | .andAD => [0xA2]
  | .andAE => [0xA3]
  | .andAH => [0xA4]
  | .andAL => [0xA5]
  | .andAAtHl => [0xA6]
  | .andAA => [0xA7]
  | .xorAB => [0xA8]
  | .xorAC => [0xA9]
  | .xorAD => [0xAA]
  | .xorAE => [0xAB]
  | .xorAH => [0xAC]
  | .xorAL => [0xAD]
  | .xorAAtHl => [0xAE]
  | .xorAA => [0xAF]
  | .orAB => [0xB0]
  | .orAC => [0xB1]
  | .orAD => [0xB2]
  | .orAE => [0xB3]
  | .orAH => [0xB4]
  | .orAL => [0xB5]
  | .orAAtHl => [0xB6]
  | .orAA => [0xB7]
  | .cpAB => [0xB8]
  | .cpAC => [0xB9]
  | .cpAD => [0xBA]
  | .cpAE => [0xBB]
  | .cpAH => [0xBC]
  | .cpAL => [0xBD]
  | .cpAAtHl => [0xBE]
  | .cpAA => [0xBF]
  | .retNz => [0xC0]
  | .popBc => [0xC1]
  | .jpNzA16 a16 => [0xC2, immLo a16, immHi a16]
  | .jpA16 a16 => [0xC3, immLo a16, immHi a16]
  | .callNzA16 a16 => [0xC4, immLo a16, immHi a16]
  | .pushBc => [0xC5]
  | .addAD8 d8 => [0xC6, d8]
  | .rst00 => [0xC7]
  | .retZ => [0xC8]
  | .ret => [0xC9]
  | .jpZA16 a16 => [0xCA, immLo a16, immHi a16]
  | .prefixCb cb => [0xCB, cb]
  | .callZA16 a16 => [0xCC, immLo a16, immHi a16]
  | .callA16 a16 => [0xCD, immLo a16, immHi a16]
  | .adcAD8 d8 => [0xCE, d8]
  | .rst08 => [0xCF]
  | .retNc => [0xD0]
  | .popDe => [0xD1]
  | .jpNcA16 a16 => [0xD2, immLo a16, immHi a16]
  | .illegalD3 => [0xD3]
  | .callNcA16 a16 => [0xD4, immLo a16, immHi a16]
  | .pushDe => [0xD5]
  | .subAD8 d8 => [0xD6, d8]
  | .rst10 => [0xD7]
  | .retC => [0xD8]
  | .reti => [0xD9]
  | .jpCA16 a16 => [0xDA, immLo a16, immHi a16]
  | .illegalDB => [0xDB]
  | .callCA16 a16 => [0xDC, immLo a16, immHi a16]
  | .illegalDD => [0xDD]
  | .sbcAD8 d8 => [0xDE, d8]
  | .rst18 => [0xDF]
  | .ldhAtA8A a8 => [0xE0, a8]
  | .popHl => [0xE1]
  | .ldAtCA => [0xE2]
  | .illegalE3 => [0xE3]
  | .illegalE4 => [0xE4]
  | .pushHl => [0xE5]
  | .andAD8 d8 => [0xE6, d8]
  | .rst20 => [0xE7]
  | .addSpE8 e8 => [0xE8, e8]
  | .jpHl => [0xE9]
  | .ldAtA16A a16 => [0xEA, immLo a16, immHi a16]
  | .illegalEB => [0xEB]
  | .illegalEC => [0xEC]
  | .illegalED => [0xED]
  | .xorAD8 d8 => [0xEE, d8]
  | .rst28 => [0xEF]
  | .ldhAAtA8 a8 => [0xF0, a8]
  | .popAf => [0xF1]
  | .ldAAtC => [0xF2]
  | .di => [0xF3]
  | .illegalF4 => [0xF4]
  | .pushAf => [0xF5]
  | .orAD8 d8 => [0xF6, d8]
  | .rst30 => [0xF7]
  | .ldHlSpE8 e8 => [0xF8, e8]
  | .ldSpHl => [0xF9]
  | .ldAAtA16 a16 => [0xFA, immLo a16, immHi a16]
  | .ei => [0xFB]
  | .illegalFC => [0xFC]
  | .illegalFD => [0xFD]
  | .cpAD8 d8 => [0xFE, d8]
  | .rst38 => [0xFF]
  | .rlcB => [0xCB, 0x00]
  | .rlcC => [0xCB, 0x01]
  | .rlcD => [0xCB, 0x02]
  | .rlcE => [0xCB, 0x03]
  | .rlcH => [0xCB, 0x04]
  | .rlcL => [0xCB, 0x05]
  | .rlcAtHl => [0xCB, 0x06]
  | .rlcA => [0xCB, 0x07]
  | .rrcB => [0xCB, 0x08]
  | .rrcC => [0xCB, 0x09]
  | .rrcD => [0xCB, 0x0A]
  | .rrcE => [0xCB, 0x0B]
  | .rrcH => [0xCB, 0x0C]
  | .rrcL => [0xCB, 0x0D]
  | .rrcAtHl => [0xCB, 0x0E]
  | .rrcA => [0xCB, 0x0F]
  | .rlB => [0xCB, 0x10]
  | .rlC => [0xCB, 0x11]
  | .rlD => [0xCB, 0x12]
  | .rlE => [0xCB, 0x13]
  | .rlH => [0xCB, 0x14]
  | .rlL => [0xCB, 0x15]
  | .rlAtHl => [0xCB, 0x16]
  | .rlA => [0xCB, 0x17]
  | .rrB => [0xCB, 0x18]
  | .rrC => [0xCB, 0x19]
  | .rrD => [0xCB, 0x1A]
  | .rrE => [0xCB, 0x1B]
  | .rrH => [0xCB, 0x1C]
  | .rrL => [0xCB, 0x1D]
  | .rrAtHl => [0xCB, 0x1E]
  | .rrA => [0xCB, 0x1F]
  | .slaB => [0xCB, 0x20]
  | .slaC => [0xCB, 0x21]
  | .slaD => [0xCB, 0x22]
  | .slaE => [0xCB, 0x23]
  | .slaH => [0xCB, 0x24]
  | .slaL => [0xCB, 0x25]
  | .slaAtHl => [0xCB, 0x26]
  | .slaA => [0xCB, 0x27]
  | .sraB => [0xCB, 0x28]
  | .sraC => [0xCB, 0x29]
  | .sraD => [0xCB, 0x2A]
  | .sraE => [0xCB, 0x2B]
  | .sraH => [0xCB, 0x2C]
  | .sraL => [0xCB, 0x2D]
  | .sraAtHl => [0xCB, 0x2E]
  | .sraA => [0xCB, 0x2F]
  | .swapB => [0xCB, 0x30]
  | .swapC => [0xCB, 0x31]
  | .swapD => [0xCB, 0x32]
  | .swapE => [0xCB, 0x33]
  | .swapH => [0xCB, 0x34]
  | .swapL => [0xCB, 0x35]
  | .swapAtHl => [0xCB, 0x36]
  | .swapA => [0xCB, 0x37]
  | .srlB => [0xCB, 0x38]
  | .srlC => [0xCB, 0x39]
  | .srlD => [0xCB, 0x3A]
  | .srlE => [0xCB, 0x3B]
  | .srlH => [0xCB, 0x3C]
  | .srlL => [0xCB, 0x3D]
  | .srlAtHl => [0xCB, 0x3E]
  | .srlA => [0xCB, 0x3F]
  | .bit0B => [0xCB, 0x40]
  | .bit0C => [0xCB, 0x41]
  | .bit0D => [0xCB, 0x42]
  | .bit0E => [0xCB, 0x43]
  | .bit0H => [0xCB, 0x44]
  | .bit0L => [0xCB, 0x45]
  | .bit0AtHl => [0xCB, 0x46]
  | .bit0A => [0xCB, 0x47]
  | .bit1B => [0xCB, 0x48]
  | .bit1C => [0xCB, 0x49]
  | .bit1D => [0xCB, 0x4A]
  | .bit1E => [0xCB, 0x4B]
  | .bit1H => [0xCB, 0x4C]
  | .bit1L => [0xCB, 0x4D]
  | .bit1AtHl => [0xCB, 0x4E]
  | .bit1A => [0xCB, 0x4F]
  | .bit2B => [0xCB, 0x50]
  | .bit2C => [0xCB, 0x51]
  | .bit2D => [0xCB, 0x52]
  | .bit2E => [0xCB, 0x53]
  | .bit2H => [0xCB, 0x54]
  | .bit2L => [0xCB, 0x55]
  | .bit2AtHl => [0xCB, 0x56]
  | .bit2A => [0xCB, 0x57]
  | .bit3B => [0xCB, 0x58]
  | .bit3C => [0xCB, 0x59]
  | .bit3D => [0xCB, 0x5A]
  | .bit3E => [0xCB, 0x5B]
  | .bit3H => [0xCB, 0x5C]
  | .bit3L => [0xCB, 0x5D]
  | .bit3AtHl => [0xCB, 0x5E]
  | .bit3A => [0xCB, 0x5F]
  | .bit4B => [0xCB, 0x60]
  | .bit4C => [0xCB, 0x61]
  | .bit4D => [0xCB, 0x62]
  | .bit4E => [0xCB, 0x63]
  | .bit4H => [0xCB, 0x64]
  | .bit4L => [0xCB, 0x65]
  | .bit4AtHl => [0xCB, 0x66]
  | .bit4A => [0xCB, 0x67]
  | .bit5B => [0xCB, 0x68]
  | .bit5C => [0xCB, 0x69]
  | .bit5D => [0xCB, 0x6A]
  | .bit5E => [0xCB, 0x6B]
  | .bit5H => [0xCB, 0x6C]
  | .bit5L => [0xCB, 0x6D]
  | .bit5AtHl => [0xCB, 0x6E]
  | .bit5A => [0xCB, 0x6F]
  | .bit6B => [0xCB, 0x70]
  | .bit6C => [0xCB, 0x71]
  | .bit6D => [0xCB, 0x72]
  | .bit6E => [0xCB, 0x73]
  | .bit6H => [0xCB, 0x74]
  | .bit6L => [0xCB, 0x75]
  | .bit6AtHl => [0xCB, 0x76]
  | .bit6A => [0xCB, 0x77]
  | .bit7B => [0xCB, 0x78]
  | .bit7C => [0xCB, 0x79]
  | .bit7D => [0xCB, 0x7A]
  | .bit7E => [0xCB, 0x7B]
  | .bit7H => [0xCB, 0x7C]
  | .bit7L => [0xCB, 0x7D]
  | .bit7AtHl => [0xCB, 0x7E]
  | .bit7A => [0xCB, 0x7F]
  | .res0B => [0xCB, 0x80]
  | .res0C => [0xCB, 0x81]
  | .res0D => [0xCB, 0x82]
  | .res0E => [0xCB, 0x83]
  | .res0H => [0xCB, 0x84]
  | .res0L => [0xCB, 0x85]
  | .res0AtHl => [0xCB, 0x86]
  | .res0A => [0xCB, 0x87]
  | .res1B => [0xCB, 0x88]
  | .res1C => [0xCB, 0x89]
  | .res1D => [0xCB, 0x8A]
  | .res1E => [0xCB, 0x8B]
  | .res1H => [0xCB, 0x8C]
  | .res1L => [0xCB, 0x8D]
  | .res1AtHl => [0xCB, 0x8E]
  | .res1A => [0xCB, 0x8F]
  | .res2B => [0xCB, 0x90]
  | .res2C => [0xCB, 0x91]
  | .res2D => [0xCB, 0x92]
  | .res2E => [0xCB, 0x93]
  | .res2H => [0xCB, 0x94]
  | .res2L => [0xCB, 0x95]
  | .res2AtHl => [0xCB, 0x96]
  | .res2A => [0xCB, 0x97]
  | .res3B => [0xCB, 0x98]
  | .res3C => [0xCB, 0x99]
  | .res3D => [0xCB, 0x9A]
  | .res3E => [0xCB, 0x9B]
  | .res3H => [0xCB, 0x9C]
  | .res3L => [0xCB, 0x9D]
  | .res3AtHl => [0xCB, 0x9E]
  | .res3A => [0xCB, 0x9F]
  | .res4B => [0xCB, 0xA0]
  | .res4C => [0xCB, 0xA1]
  | .res4D => [0xCB, 0xA2]
  | .res4E => [0xCB, 0xA3]
  | .res4H => [0xCB, 0xA4]
  | .res4L => [0xCB, 0xA5]
  | .res4AtHl => [0xCB, 0xA6]
  | .res4A => [0xCB, 0xA7]
  | .res5B => [0xCB, 0xA8]
  | .res5C => [0xCB, 0xA9]
  | .res5D => [0xCB, 0xAA]
  | .res5E => [0xCB, 0xAB]
  | .res5H => [0xCB, 0xAC]
  | .res5L => [0xCB, 0xAD]
  | .res5AtHl => [0xCB, 0xAE]
  | .res5A => [0xCB, 0xAF]
  | .res6B => [0xCB, 0xB0]
  | .res6C => [0xCB, 0xB1]
  | .res6D => [0xCB, 0xB2]
  | .res6E => [0xCB, 0xB3]
  | .res6H => [0xCB, 0xB4]
  | .res6L => [0xCB, 0xB5]
  | .res6AtHl => [0xCB, 0xB6]
  | .res6A => [0xCB, 0xB7]
  | .res7B => [0xCB, 0xB8]
  | .res7C => [0xCB, 0xB9]
  | .res7D => [0xCB, 0xBA]
  | .res7E => [0xCB, 0xBB]
  | .res7H => [0xCB, 0xBC]
  | .res7L => [0xCB, 0xBD]
  | .res7AtHl => [0xCB, 0xBE]
  | .res7A => [0xCB, 0xBF]
  | .set0B => [0xCB, 0xC0]
  | .set0C => [0xCB, 0xC1]
  | .set0D => [0xCB, 0xC2]
  | .set0E => [0xCB, 0xC3]
  | .set0H => [0xCB, 0xC4]
  | .set0L => [0xCB, 0xC5]
  | .set0AtHl => [0xCB, 0xC6]
  | .set0A => [0xCB, 0xC7]
  | .set1B => [0xCB, 0xC8]
  | .set1C => [0xCB, 0xC9]
  | .set1D => [0xCB, 0xCA]
  | .set1E => [0xCB, 0xCB]
  | .set1H => [0xCB, 0xCC]
  | .set1L => [0xCB, 0xCD]
  | .set1AtHl => [0xCB, 0xCE]
  | .set1A => [0xCB, 0xCF]
  | .set2B => [0xCB, 0xD0]
  | .set2C => [0xCB, 0xD1]
  | .set2D => [0xCB, 0xD2]
  | .set2E => [0xCB, 0xD3]
  | .set2H => [0xCB, 0xD4]
  | .set2L => [0xCB, 0xD5]
  | .set2AtHl => [0xCB, 0xD6]
  | .set2A => [0xCB, 0xD7]
  | .set3B => [0xCB, 0xD8]
  | .set3C => [0xCB, 0xD9]
  | .set3D => [0xCB, 0xDA]
  | .set3E => [0xCB, 0xDB]
  | .set3H => [0xCB, 0xDC]
  | .set3L => [0xCB, 0xDD]
  | .set3AtHl => [0xCB, 0xDE]
  | .set3A => [0xCB, 0xDF]
  | .set4B => [0xCB, 0xE0]
  | .set4C => [0xCB, 0xE1]
  | .set4D => [0xCB, 0xE2]
  | .set4E => [0xCB, 0xE3]
  | .set4H => [0xCB, 0xE4]
  | .set4L => [0xCB, 0xE5]
  | .set4AtHl => [0xCB, 0xE6]
  | .set4A => [0xCB, 0xE7]
  | .set5B => [0xCB, 0xE8]
  | .set5C => [0xCB, 0xE9]
  | .set5D => [0xCB, 0xEA]
  | .set5E => [0xCB, 0xEB]
  | .set5H => [0xCB, 0xEC]
  | .set5L => [0xCB, 0xED]
  | .set5AtHl => [0xCB, 0xEE]
  | .set5A => [0xCB, 0xEF]
  | .set6B => [0xCB, 0xF0]
  | .set6C => [0xCB, 0xF1]
  | .set6D => [0xCB, 0xF2]
  | .set6E => [0xCB, 0xF3]
  | .set6H => [0xCB, 0xF4]
  | .set6L => [0xCB, 0xF5]
  | .set6AtHl => [0xCB, 0xF6]
  | .set6A => [0xCB, 0xF7]
  | .set7B => [0xCB, 0xF8]
  | .set7C => [0xCB, 0xF9]
  | .set7D => [0xCB, 0xFA]
  | .set7E => [0xCB, 0xFB]
  | .set7H => [0xCB, 0xFC]
  | .set7L => [0xCB, 0xFD]
  | .set7AtHl => [0xCB, 0xFE]
  | .set7A => [0xCB, 0xFF]

end Sys2Proof
end

