-- ==== Sys2Proof/Config.lean ====
section
/-! DEFINITION. What the spec leaves to the environment: the named parameters of 00_scope.md R6 and the
values it leaves open. A value with no body is open: nothing can be proved about which one it is. -/

namespace Sys2Proof.Config

/-- `GEN`, the device mode selector (00_scope.md R6): the older and the newer hardware generation. -/
inductive Gen where
  | dmg
  | cgb
  deriving DecidableEq, Repr, Inhabited

/-- `ACC_ROTATE_Z` (43_rotate_shift_bit.md R230): what RLCA, RRCA, RLA and RRA do to Z. -/
inductive AccRotateZ where
  | unchanged
  | clear
  deriving DecidableEq, Repr, Inhabited

/-- The three combinations of generation and cartridge a boot-skip is keyed by (70_reset_and_hazards.md R385). -/
inductive Combo where
  | dmg
  | cgbCompat
  | cgb
  deriving DecidableEq, Repr, Inhabited

/-- One row of `POSTBOOT` (70_reset_and_hazards.md R385), but for PC: the registers, the counter and the
interrupt and timer registers a boot-skip loads. PC is 0x0100 in all three rows (R386, R387). -/
structure PostBoot where
  af : Word
  bc : Word
  de : Word
  hl : Word
  sp : Word
  sysCounter : Word
  ifl : BitVec 5
  ie : Byte
  tima : Byte
  tma : Byte
  tac : BitVec 3
  deriving DecidableEq, Repr, Inhabited

/-- The free value of an `EXT_IO` read (20_memory.md R78, 93_implementation_defined.md): the byte the n-th
unanswered read gives. Log entry 8. -/
opaque extIoByte : Nat → Byte

/-- `CART.read` of a cartridge other than the default one (20_memory.md R75): the byte it answers at an address when
its own state is the given number. The core assumes nothing of it. Log entry 4. -/
opaque cartByte : Nat → Addr → Byte

/-- The own state of such a cartridge after it answered a read (20_memory.md R75). Log entry 4. -/
opaque cartAfterRead : Nat → Addr → Nat

/-- The own state of such a cartridge after `CART.write` (20_memory.md R75). Log entry 4. -/
opaque cartAfterWrite : Nat → Addr → Byte → Nat

/-- Whether a header byte 0x0143 other than 0xC0 declares the cartridge newer-generation-capable
(70_reset_and_hazards.md R385, which gives no byte for it). Log entry 28. -/
opaque newerCapable : Byte → Bool

/-- `POSTBOOT[CGB_COMPAT]`, OPEN in 70_reset_and_hazards.md R387. Log entry 19. -/
opaque postBootCgbCompat : PostBoot

/-- `POSTBOOT[CGB]`, OPEN in 70_reset_and_hazards.md R387. Log entry 19. -/
opaque postBootCgb : PostBoot

end Sys2Proof.Config
end

