-- ==== Sys2Proof/Machine/State.lean ====
section
/-! DEFINITION. The state of the GBE core as plain data, every piece the spec names (10_state.md) with the
collaborators' side of the interface (60_exceptions.md R360 to R366), the ways a step can stop, and the
state at power-on reset (10_state.md R47). -/

namespace Sys2Proof.Machine

/-- The register file of 10_state.md R20, with SP (R23) and PC (R26). -/
structure Regs where
  a : Byte
  f : Byte
  b : Byte
  c : Byte
  d : Byte
  e : Byte
  h : Byte
  l : Byte
  sp : Word
  pc : Addr
  deriving DecidableEq, Repr

/-- Why the engine locked (60_exceptions.md R320, R325). -/
inductive LockReason where
  | illegalOpcode
  deriving DecidableEq, Repr

/-- A fault record of 60_exceptions.md R325: reason, opcode byte, address of the opcode. -/
structure FaultRecord where
  reason : LockReason
  opcode : Byte
  address : Addr
  deriving DecidableEq, Repr

/-- The execution engine's hidden state (10_state.md R28 to R33). -/
structure Engine where
  ime : Bool
  imeScheduled : Bool
  halted : Bool
  haltBug : Bool
  locked : Bool
  refused : Bool
  faults : List FaultRecord
  deriving DecidableEq, Repr

/-- The interrupt controller (10_state.md R34, R35): IE, and the five stored bits of IF. -/
structure Irq where
  ie : Byte
  ifl : BitVec 5
  deriving DecidableEq, Repr

/-- The timer (10_state.md R36 to R41). DIV is the high byte of `sysCounter`; `tac` holds TAC[2:0]. -/
structure Timer where
  sysCounter : BitVec 16
  acc : Nat
  tima : Byte
  tma : Byte
  tac : BitVec 3
  deriving DecidableEq, Repr

/-- The video access mode of 20_memory.md R79, a value in 0 to 3. -/
inductive VideoMode where
  | mode0
  | mode1
  | mode2
  | mode3
  deriving DecidableEq, Repr

/-- What the collaborators and the host do around ONE step, within the footprint of 60_exceptions.md R362 to R366.
`joypad` and `serial` are host events before the step (R366); `dmaReads`, `dmaOam` and `dmaRequests` are the DMA
advance (R362, R363); `videoMode`, `vblank` and `stat` are the video advance (R364). Log entries 10 and 11. -/
structure StepInput where
  joypad : Bool
  serial : Bool
  dmaReads : List Addr
  dmaOam : List (Fin 160 × Byte)
  dmaRequests : BitVec 5
  videoMode : Option VideoMode
  vblank : Bool
  stat : Bool
  deriving DecidableEq, Repr

/-- The cartridge behind `CART.read` and `CART.write` (20_memory.md R75), a parameter (00_scope.md R6): the default
ROM-only cartridge, whose image lies in `mem`, or any other, known by its own state alone. Log entry 4. -/
inductive Cart where
  | romOnly
  | supplied (state : Nat)
  deriving DecidableEq, Repr

/-- The collaborators' side of the interface (10_state.md R45, 60_exceptions.md R360): the cartridge, the access mode
the video unit shows, the moves to come (one entry a step, none left: the quiet default of R364), the answers `EXT_IO`
gives next, the count of its free answers so far, and the bytes handed to `CART.write` and `EXT_IO.write`,
newest first. Log entries 4, 8, 9 and 10. -/
structure Collab where
  cart : Cart
  videoMode : VideoMode
  inputs : List StepInput
  extAnswers : List Byte
  extDrawn : Nat
  sent : List Host.Cell
  deriving DecidableEq, Repr

/-- The parameters of 00_scope.md R6 that a rule of the core or of its host reads; `memT` is `MEM_T`, the T-cycles of a byte
access (20_memory.md R65), and `mT` is `M_T`, those of a machine cycle (00_scope.md R12). Log entries 6 and 7. -/
structure Params where
  gen : Config.Gen
  haltBug : Bool
  accRotateZ : Config.AccRotateZ
  memT : Nat
  mT : Nat
  deriving DecidableEq, Repr

/-- The whole machine (10_state.md R45). `mem` holds the cartridge image, VRAM, WRAM, OAM and HRAM under
their own addresses, `bootRom` the boot overlay program. `cost` is the T-cycle count the last step returned
(60_exceptions.md R350) and `opAddr` the address of the opcode under execution (R351): log entry 12. -/
structure State where
  regs : Regs
  engine : Engine
  irq : Irq
  timer : Timer
  bootDisabled : Bool
  mem : List Host.Cell
  bootRom : List Host.Cell
  collab : Collab
  params : Params
  totalCycles : Nat
  cost : Nat
  opAddr : Addr
  deriving DecidableEq, Repr

/-- How a step can end in a fault. The source's fatal invariant violations are unreachable in the spec
(20_memory.md R69), so the only constructor is the dead branch R69 lets a model keep. -/
inductive Fault where
  /-- Raised by the step when the decoder refuses the very bytes it asked for, which cannot happen; safe, the
  machine only stops (20_memory.md R69, log entry 15). -/
  | invariantViolation
  deriving DecidableEq, Repr

/-- How a step can end in a refusal. -/
inductive Refusal where
  /-- Raised by an arm of `exec` whose instruction has no meaning yet; safe, nothing can be proved of the run. -/
  | notModelled (mnemonic : String)
  /-- Raised by STOP at the given opcode address (45_system.md R303); safe, no claim holds of a run that
  executes STOP (92_eei_decisions.md D24, log entry 13). -/
  | stopUnmodelled (address : Addr)
  /-- Raised by a step from a state whose `refused` mark is set (10_state.md R33); safe (log entry 14). -/
  | alreadyRefused
  deriving DecidableEq, Repr

/-- The state right after power-on reset (10_state.md R47). Where R47 leaves a value unspecified the model's log
names it: the registers and SP 0 (log entries 1 and 2), memory with nothing listed (log entries 3 to 5), the
parameters at their defaults (log entries 4, 6 and 7), the collaborators quiet (log entries 8 to 10). -/
def State.reset : State where
  regs := { a := 0, f := 0, b := 0, c := 0, d := 0, e := 0, h := 0, l := 0, sp := 0, pc := 0 }
  engine :=
    { ime := false, imeScheduled := false, halted := false, haltBug := false,
      locked := false, refused := false, faults := [] }
  irq := { ie := 0, ifl := 0 }
  timer := { sysCounter := 0, acc := 0, tima := 0, tma := 0, tac := 0 }
  bootDisabled := false
  mem := []
  bootRom := []
  collab :=
    { cart := .romOnly, videoMode := .mode0, inputs := [], extAnswers := [], extDrawn := 0, sent := [] }
  params := { gen := .dmg, haltBug := true, accRotateZ := .unchanged, memT := 4, mT := 4 }
  totalCycles := 0
  cost := 0
  opAddr := 0

end Sys2Proof.Machine
end

