-- ==== Sys2Proof/Machine/Ops.lean ====
section
/-! DEFINITION. The named operations over memory, the router and the registers (20_memory.md, 10_state.md), the
stack primitives (40_load_store.md R150, R151), the two ways control is taken from a program (interrupt service
60_exceptions.md R334, the lock R325) and the return from an interrupt (44_control.md R280). -/

namespace Sys2Proof.Machine

/-! ### Bytes and words -/

/-- The high byte of a 16-bit value. -/
def hiByte (w : Word) : Byte := w.extractLsb' 8 8

/-- The low byte of a 16-bit value. -/
def loByte (w : Word) : Byte := w.extractLsb' 0 8

/-- `(h << 8) | l` (00_scope.md R7). -/
def mkWord (h l : Byte) : Word := h ++ l

/-- `sext_16(v)` (00_scope.md R8). -/
def sext16 (v : Byte) : Word := v.signExtend 16

/-! ### Memory as a list of cells -/

/-- What an unlisted address reads as. DESIGN CHOICE, unsafe: RAM is unspecified at power-on (10_state.md R47)
and the images of the cartridge and the overlay are parameters; log entries 3, 4 and 5. -/
def Memory.unlisted : Byte := 0x00

/-- The byte a key holds. -/
def Memory.read : List Host.Cell → Nat → Byte
  | [], _ => Memory.unlisted
  | (k, w) :: r, n => if k = n then w else Memory.read r n

/-- Store a byte under a key, keeping the keys rising and no entry equal to what an unlisted key reads as. -/
def Memory.write : List Host.Cell → Nat → Byte → List Host.Cell
  | [], n, v => if v = Memory.unlisted then [] else [(n, v)]
  | (k, w) :: r, n, v =>
    if k < n then (k, w) :: Memory.write r n v
    else if k = n then (if v = Memory.unlisted then r else (n, v) :: r)
    else (if v = Memory.unlisted then (k, w) :: r else (n, v) :: (k, w) :: r)

/-- Every key is at least `n`, the keys rise strictly, and no entry holds the unlisted byte. -/
def Memory.wfFrom : Nat → List Host.Cell → Bool
  | _, [] => true
  | n, (k, w) :: r => decide (n ≤ k) && decide (w ≠ Memory.unlisted) && Memory.wfFrom (k + 1) r

/-- The canonical form of a memory. -/
def Memory.wf (m : List Host.Cell) : Bool := Memory.wfFrom 0 m

/-- Store a run of bytes at rising keys. -/
def Memory.load : List Host.Cell → Nat → List Byte → List Host.Cell
  | m, _, [] => m
  | m, n, v :: vs => Memory.load (Memory.write m n v) (n + 1) vs

/-! ### The router: regions -/

/-- The regions of 20_memory.md R67. -/
inductive Region where
  | bootWindow
  | cartRom
  | vram
  | cartRam
  | wram
  | echo
  | oam
  | unusable
  | io
  | hram
  | ieReg
  deriving DecidableEq, Repr

/-- The one region of an address (20_memory.md R66, R67). -/
def regionOf (a : Addr) : Region :=
  if a.toNat ≤ 0x00FF then .bootWindow
  else if a.toNat ≤ 0x7FFF then .cartRom
  else if a.toNat ≤ 0x9FFF then .vram
  else if a.toNat ≤ 0xBFFF then .cartRam
  else if a.toNat ≤ 0xDFFF then .wram
  else if a.toNat ≤ 0xFDFF then .echo
  else if a.toNat ≤ 0xFE9F then .oam
  else if a.toNat ≤ 0xFEFF then .unusable
  else if a.toNat ≤ 0xFF7F then .io
  else if a.toNat ≤ 0xFFFE then .hram
  else .ieReg

/-- The key a stored byte of an address has: the echo names the byte 0x2000 below (20_memory.md R73). -/
def cellOf (a : Addr) : Nat :=
  if regionOf a = .echo then a.toNat - 0x2000 else a.toNat

/-- Video RAM is inaccessible in mode 3 (20_memory.md R80). -/
def vramContended : VideoMode → Bool
  | .mode3 => true
  | .mode0 | .mode1 | .mode2 => false

/-- The sprite table is inaccessible in modes 2 and 3 (20_memory.md R80). -/
def oamContended : VideoMode → Bool
  | .mode2 | .mode3 => true
  | .mode0 | .mode1 => false

/-- The byte the router substitutes for a contended read (20_memory.md R80). -/
def contendedFill : Byte := 0xFF

/-! ### The collaborators CART and EXT_IO -/

/-- The byte `CART.read` answers (20_memory.md R75): of the default ROM-only cartridge the image's byte, and 0xFF
where cartridge RAM would be; of any other what it makes of its own state. Log entry 4. -/
def cartAnswer (s : State) (a : Addr) : Byte :=
  match s.collab.cart with
  | .romOnly => if a.toNat ≤ 0x7FFF then Memory.read s.mem a.toNat else 0xFF
  | .supplied n => Config.cartByte n a

/-- The cartridge after it answered a read (20_memory.md R75, R83). Log entry 4. -/
def Cart.afterRead (c : Cart) (a : Addr) : Cart :=
  match c with
  | .romOnly => .romOnly
  | .supplied n => .supplied (Config.cartAfterRead n a)

/-- The cartridge after a write: nothing happens to the default one (20_memory.md R75, R83). Log entry 4. -/
def Cart.afterWrite (c : Cart) (a : Addr) (v : Byte) : Cart :=
  match c with
  | .romOnly => .romOnly
  | .supplied n => .supplied (Config.cartAfterWrite n a v)

/-- `CART.read` (20_memory.md R75): the answer, and the state after it, which differs in the cartridge's own state
alone. -/
def cartRead (s : State) (a : Addr) : Byte × State :=
  (cartAnswer s a, { s with collab := { s.collab with cart := s.collab.cart.afterRead a } })

/-- `CART.write` changes the cartridge's own state (20_memory.md R75); the byte is kept among those sent to a
collaborator. Log entries 4 and 9. -/
def cartWrite (s : State) (a : Addr) (v : Byte) : State :=
  { s with
    collab :=
      { s.collab with
        cart := s.collab.cart.afterWrite a v
        sent := (a.toNat, v) :: s.collab.sent } }

/-- The byte an `EXT_IO` read answers: the next supplied answer, or the free value when none is left
(20_memory.md R78). Log entry 8. -/
def extIoAnswer (c : Collab) : Byte :=
  match c.extAnswers with
  | [] => Config.extIoByte c.extDrawn
  | v :: _ => v

/-- The collaborators' state after an `EXT_IO` read: the answer it gave is used up. -/
def extIoSpent (c : Collab) : Collab :=
  match c.extAnswers with
  | [] => { c with extDrawn := c.extDrawn + 1 }
  | _ :: vs => { c with extAnswers := vs }

/-- `EXT_IO.read` (60_exceptions.md R361). -/
def extIoRead (s : State) : Byte × State :=
  (extIoAnswer s.collab, { s with collab := extIoSpent s.collab })

/-- `EXT_IO.write` changes collaborator state only (60_exceptions.md R361). Log entry 9. -/
def extIoWrite (s : State) (a : Addr) (v : Byte) : State :=
  { s with collab := { s.collab with sent := (a.toNat, v) :: s.collab.sent } }

/-! ### I/O registers -/

/-- Who owns an address of 0xFF00 to 0xFF7F (20_memory.md R77, 10_state.md R46). -/
inductive IoReg where
  | div
  | tima
  | tma
  | tac
  | ifl
  | boot
  | ext
  deriving DecidableEq, Repr

/-- The owner of an I/O address (20_memory.md R77). -/
def ioRegOf (a : Addr) : IoReg :=
  if a.toNat = 0xFF04 then .div
  else if a.toNat = 0xFF05 then .tima
  else if a.toNat = 0xFF06 then .tma
  else if a.toNat = 0xFF07 then .tac
  else if a.toNat = 0xFF0F then .ifl
  else if a.toNat = 0xFF50 then .boot
  else .ext

/-- An address whose reads and writes go to `EXT_IO` (20_memory.md R78). -/
def extOwned (a : Addr) : Bool :=
  decide (regionOf a = .io) && decide (ioRegOf a = .ext)

/-- `ioRead` (20_memory.md R77). -/
def ioRead (s : State) (a : Addr) : Byte × State :=
  match ioRegOf a with
  | .div => (hiByte s.timer.sysCounter, s)
  | .tima => (s.timer.tima, s)
  | .tma => (s.timer.tma, s)
  | .tac => ((0b11111 : BitVec 5) ++ s.timer.tac, s)
  | .ifl => ((0b111 : BitVec 3) ++ s.irq.ifl, s)
  | .boot => (0xFF, s)
  | .ext => extIoRead s

/-- `ioWrite` (20_memory.md R77). -/
def ioWrite (s : State) (a : Addr) (v : Byte) : State :=
  match ioRegOf a with
  | .div => { s with timer := { s.timer with sysCounter := 0, acc := 0 } }
  | .tima => { s with timer := { s.timer with tima := v } }
  | .tma => { s with timer := { s.timer with tma := v } }
  | .tac => { s with timer := { s.timer with tac := v.extractLsb' 0 3 } }
  | .ifl => { s with irq := { s.irq with ifl := v.extractLsb' 0 5 } }
  | .boot => { s with bootDisabled := s.bootDisabled || decide (v ≠ 0) }
  | .ext => extIoWrite s a v

/-! ### The router's two entry points -/

/-- `readByte` (20_memory.md R70): the byte, and the state after the read, which differs only where `EXT_IO` or a
cartridge other than the default one answered. -/
def readByte (s : State) (a : Addr) : Byte × State :=
  match regionOf a with
  | .bootWindow =>
    if s.bootDisabled then cartRead s a else (Memory.read s.bootRom a.toNat, s)
  | .cartRom => cartRead s a
  | .vram =>
    (if vramContended s.collab.videoMode then contendedFill else Memory.read s.mem (cellOf a), s)
  | .cartRam => cartRead s a
  | .wram => (Memory.read s.mem (cellOf a), s)
  | .echo => (Memory.read s.mem (cellOf a), s)
  | .oam =>
    (if oamContended s.collab.videoMode then contendedFill else Memory.read s.mem (cellOf a), s)
  | .unusable => (0x00, s)
  | .io => ioRead s a
  | .hram => (Memory.read s.mem (cellOf a), s)
  | .ieReg => (s.irq.ie, s)

/-- A collaborator with a state of its own answers a read of this address: `EXT_IO`, or a cartridge other than the
default one (20_memory.md R68, R83). -/
def answeredOutside (s : State) (a : Addr) : Bool :=
  match regionOf a with
  | .io => decide (ioRegOf a = .ext)
  | .cartRom | .cartRam => decide (s.collab.cart ≠ .romOnly)
  | .bootWindow => s.bootDisabled && decide (s.collab.cart ≠ .romOnly)
  | .vram | .wram | .echo | .oam | .unusable | .hram | .ieReg => false

/-- The byte a read of an address gives. -/
def peek (s : State) (a : Addr) : Byte := (readByte s a).1

/-- Store into one of the core's own arrays (10_state.md R43). -/
def storeCell (s : State) (n : Nat) (v : Byte) : State :=
  { s with mem := Memory.write s.mem n v }

/-- `writeByte` (20_memory.md R71). -/
def writeByte (s : State) (a : Addr) (v : Byte) : State :=
  match regionOf a with
  | .bootWindow => cartWrite s a v
  | .cartRom => cartWrite s a v
  | .vram => if vramContended s.collab.videoMode then s else storeCell s (cellOf a) v
  | .cartRam => cartWrite s a v
  | .wram => storeCell s (cellOf a) v
  | .echo => storeCell s (cellOf a) v
  | .oam => if oamContended s.collab.videoMode then s else storeCell s (cellOf a) v
  | .unusable => s
  | .io => ioWrite s a v
  | .hram => storeCell s (cellOf a) v
  | .ieReg => { s with irq := { s.irq with ie := v } }

/-- `MemRead(a, 2)` (20_memory.md R72): low byte at `a` first, then high byte at `a + 1`. -/
def readWord (s : State) (a : Addr) : Word × State :=
  let lo := readByte s a
  let hi := readByte lo.2 (a + 1)
  (mkWord hi.1 lo.1, hi.2)

/-- `MemWrite(a, 2, v)` (20_memory.md R72): low byte to `a` first, then high byte to `a + 1`. -/
def writeWord (s : State) (a : Addr) (v : Word) : State :=
  writeByte (writeByte s a (loByte v)) (a + 1) (hiByte v)

/-! ### Registers -/

/-- Set PC. -/
def setPc (s : State) (v : Addr) : State := { s with regs := { s.regs with pc := v } }

/-- Set SP. -/
def setSp (s : State) (v : Word) : State := { s with regs := { s.regs with sp := v } }

/-- Set A. -/
def setA (s : State) (v : Byte) : State := { s with regs := { s.regs with a := v } }

/-- Every write to F masks its low nibble out (10_state.md R22). -/
def setF (s : State) (v : Byte) : State := { s with regs := { s.regs with f := v &&& 0xF0 } }

/-- The view AF (10_state.md R21). -/
def getAf (s : State) : Word := mkWord s.regs.a s.regs.f

/-- The view BC (10_state.md R21). -/
def getBc (s : State) : Word := mkWord s.regs.b s.regs.c

/-- The view DE (10_state.md R21). -/
def getDe (s : State) : Word := mkWord s.regs.d s.regs.e

/-- The view HL (10_state.md R21). -/
def getHl (s : State) : Word := mkWord s.regs.h s.regs.l

/-- Setting AF writes both halves, F with its low nibble masked out (10_state.md R21, R22). -/
def setAf (s : State) (v : Word) : State :=
  { s with regs := { s.regs with a := hiByte v, f := loByte v &&& 0xF0 } }

/-- Setting BC writes both halves (10_state.md R21). -/
def setBc (s : State) (v : Word) : State :=
  { s with regs := { s.regs with b := hiByte v, c := loByte v } }

/-- Setting DE writes both halves (10_state.md R21). -/
def setDe (s : State) (v : Word) : State :=
  { s with regs := { s.regs with d := hiByte v, e := loByte v } }

/-- Setting HL writes both halves (10_state.md R21). -/
def setHl (s : State) (v : Word) : State :=
  { s with regs := { s.regs with h := hiByte v, l := loByte v } }

/-- The T-cycles of a number of byte accesses, fetches among them, and of internal machine cycles (00_scope.md R10, R12;
20_memory.md R65; 70_reset_and_hazards.md R397). DEDUCED where `MEM_T` and `M_T` differ: log entry 7. -/
def tCycles (p : Params) (accesses internal : Nat) : Nat := accesses * p.memT + internal * p.mT

/-- Record the T-cycle cost an instruction returns to the sequencer (00_scope.md R11, R12). -/
def charge (s : State) (accesses internal : Nat) : State :=
  { s with cost := tCycles s.params accesses internal }

/-! ### Stack primitives -/

/-- `push16(v)` (40_load_store.md R150). -/
def push16 (s : State) (v : Word) : State :=
  writeWord (setSp s (s.regs.sp - 2)) (s.regs.sp - 2) v

/-- `pop16()` (40_load_store.md R151). -/
def pop16 (s : State) : Word × State :=
  let r := readWord s s.regs.sp
  (r.1, setSp r.2 (s.regs.sp + 2))

/-! ### Taking control from the program, and giving it back -/

/-- The pending mask `IE & IF & 0x1F` (60_exceptions.md R331). -/
def pendingMask (s : State) : BitVec 5 := s.irq.ie.extractLsb' 0 5 &&& s.irq.ifl

/-- The lowest set bit of a pending mask, if any (60_exceptions.md R333). -/
def lowestSource (m : BitVec 5) : Option (Fin 5) :=
  if m.getLsbD 0 then some 0
  else if m.getLsbD 1 then some 1
  else if m.getLsbD 2 then some 2
  else if m.getLsbD 3 then some 3
  else if m.getLsbD 4 then some 4
  else none

/-- The vector of a source, `0x0040 + 8 * i` (60_exceptions.md R330). -/
def vectorOf (i : Fin 5) : Addr := 0x0040 + 8 * BitVec.ofNat 16 i.val

/-- The interrupt controller's "pending vector" output (60_exceptions.md R338). -/
def pendingVector (s : State) : Option Addr := (lowestSource (pendingMask s)).map vectorOf

/-- The request-bit setter: set IF bits, never clear one (60_exceptions.md R363). -/
def requestInterrupts (s : State) (m : BitVec 5) : State :=
  { s with irq := { s.irq with ifl := s.irq.ifl ||| m } }

/-- Clear the request bit of one source, and only that (60_exceptions.md R333). -/
def clearRequest (s : State) (i : Fin 5) : State :=
  { s with irq := { s.irq with ifl := s.irq.ifl &&& ~~~((1 : BitVec 5) <<< i.val) } }

/-- Service of source `i` (60_exceptions.md R334): clear its request, clear IME, the pending EI and the halt, push
the return address (PC, or PC - 1 when the halt bug is pending), jump to the vector, 20 T-cycles. -/
def serviceSource (s : State) (i : Fin 5) : State :=
  let s1 := clearRequest s i
  let ret := if s.engine.haltBug then s.regs.pc - 1 else s.regs.pc
  let s2 : State :=
    { s1 with engine :=
      { s1.engine with ime := false, imeScheduled := false, halted := false, haltBug := false } }
  charge (setPc (push16 s2 ret) (vectorOf i)) 2 3

/-- `serviceInterrupt()` (60_exceptions.md R334): the source is selected before the push. With nothing pending
there is nothing to serve and the state stays. -/
def serviceInterrupt (s : State) : State :=
  match lowestSource (pendingMask s) with
  | some i => serviceSource s i
  | none => s

/-- The return from an interrupt handler (44_control.md R280): `PC <- pop16(); IME <- 1; imeScheduled <- 0`. -/
def returnFromInterrupt (s : State) : State :=
  let r := pop16 s
  let s1 := setPc r.2 r.1
  { s1 with engine := { s1.engine with ime := true, imeScheduled := false } }

/-- `raise Lock(reason)` (60_exceptions.md R325): append the record, set `locked`. -/
def raiseLock (s : State) (reason : LockReason) (opcode : Byte) (address : Addr) : State :=
  { s with engine :=
    { s.engine with
      locked := true
      faults := s.engine.faults ++ [{ reason := reason, opcode := opcode, address := address }] } }

end Sys2Proof.Machine
end

