-- ==== Sys2Proof/Machine/Flags.lean ====
section
/-! DEFINITION. The flags of F (10_state.md R24) and every computation that yields them: the 8-bit primitives
(41_alu8.md R170 to R172, R189, R192), the 16-bit ones (42_alu16.md R213, R215), the rotates and shifts
(43_rotate_shift_bit.md R231 to R243) and the bit test (R244). -/

namespace Sys2Proof.Machine

/-! ### Reading and writing F -/

/-- Z = F[7] (10_state.md R24). -/
def flagZ (s : State) : Bool := s.regs.f.getLsbD 7

/-- N = F[6] (10_state.md R24). -/
def flagN (s : State) : Bool := s.regs.f.getLsbD 6

/-- H = F[5] (10_state.md R24). -/
def flagH (s : State) : Bool := s.regs.f.getLsbD 5

/-- C = F[4] (10_state.md R24). -/
def flagC (s : State) : Bool := s.regs.f.getLsbD 4

/-- F with the four flags given and its low nibble 0 (10_state.md R22, R24). -/
def packFlags (z n h c : Bool) : Byte :=
  BitVec.ofBool z ++ BitVec.ofBool n ++ BitVec.ofBool h ++ BitVec.ofBool c ++ (0 : BitVec 4)

/-- One update of F that writes all four flags (10_state.md R24). -/
def setFlags (s : State) (z n h c : Bool) : State := setF s (packFlags z n h c)

/-! ### 8-bit primitives -/

/-- What an 8-bit primitive answers: the new value and the four flags (41_alu8.md, head). -/
structure AluResult where
  res : Byte
  z : Bool
  n : Bool
  h : Bool
  c : Bool
  deriving DecidableEq, Repr

/-- `add8(a, b, cin)` (41_alu8.md R170), over unbounded integers. -/
def add8 (a b : Byte) (cin : Bool) : AluResult :=
  let r := a.toNat + b.toNat + cin.toNat
  let res := BitVec.ofNat 8 r
  { res := res
    z := decide (res = 0)
    n := false
    h := decide ((a &&& 0x0F).toNat + (b &&& 0x0F).toNat + cin.toNat > 0x0F)
    c := decide (r > 0xFF) }

/-- `sub8(a, b, cin)` (41_alu8.md R171), over unbounded integers. -/
def sub8 (a b : Byte) (cin : Bool) : AluResult :=
  let r : Int := (a.toNat : Int) - (b.toNat : Int) - (cin.toNat : Int)
  let res := BitVec.ofInt 8 r
  { res := res
    z := decide (res = 0)
    n := true
    h := decide (((a &&& 0x0F).toNat : Int) - ((b &&& 0x0F).toNat : Int) - (cin.toNat : Int) < 0)
    c := decide (r < 0) }

/-- `and8(a, b)` (41_alu8.md R172). -/
def and8 (a b : Byte) : AluResult :=
  { res := a &&& b, z := decide (a &&& b = 0), n := false, h := true, c := false }

/-- `or8(a, b)` (41_alu8.md R172). -/
def or8 (a b : Byte) : AluResult :=
  { res := a ||| b, z := decide (a ||| b = 0), n := false, h := false, c := false }

/-- `xor8(a, b)` (41_alu8.md R172). -/
def xor8 (a b : Byte) : AluResult :=
  { res := a ^^^ b, z := decide (a ^^^ b = 0), n := false, h := false, c := false }

/-- The ALU operation field (30_encoding.md R107) applied to A, an operand and the old carry. -/
def aluCompute (op : AluOp) (a b : Byte) (cin : Bool) : AluResult :=
  match op with
  | .add => add8 a b false
  | .adc => add8 a b cin
  | .sub => sub8 a b false
  | .sbc => sub8 a b cin
  | .and => and8 a b
  | .xor => xor8 a b
  | .or => or8 a b
  | .cp => sub8 a b false

/-- `inc8(v)` (41_alu8.md R189), with the carry it leaves unchanged. -/
def inc8 (v : Byte) (c : Bool) : AluResult :=
  { res := v + 1
    z := decide (v + 1 = 0)
    n := false
    h := decide (v &&& 0x0F = 0x0F)
    c := c }

/-- `dec8(v)` (41_alu8.md R189), with the carry it leaves unchanged. -/
def dec8 (v : Byte) (c : Bool) : AluResult :=
  { res := v - 1
    z := decide (v - 1 = 0)
    n := true
    h := decide (v &&& 0x0F = 0x00)
    c := c }

/-- The first adjustment of DAA in add mode (41_alu8.md R192), over unbounded integers. -/
def daaAddLow (a : Int) (h : Bool) : Int :=
  if h || decide (a % 16 > 9) then a + 0x06 else a

/-- DAA's unbounded intermediate in add mode (41_alu8.md R192): "value" is `a` after the first adjustment. -/
def daaAdd (a : Int) (h c : Bool) : Int :=
  if c || decide (daaAddLow a h > 0x9F) then daaAddLow a h + 0x60 else daaAddLow a h

/-- The first adjustment of DAA in subtract mode (41_alu8.md R192), masked to 8 bits when C is clear. -/
def daaSubLow (a : Int) (h c : Bool) : Int :=
  if h then (if c then a - 0x06 else (a - 0x06) % 256) else a

/-- DAA's intermediate in subtract mode (41_alu8.md R192). -/
def daaSub (a : Int) (h c : Bool) : Int :=
  if c then daaSubLow a h c - 0x60 else daaSubLow a h c

/-- DAA (41_alu8.md R192): decimal adjust of `a` by the flags N, H, C as they stand before it. -/
def daa8 (a : Byte) (n h c : Bool) : AluResult :=
  let v : Int := if n then daaSub a.toNat h c else daaAdd a.toNat h c
  let res := BitVec.ofInt 8 v
  { res := res
    z := decide (res = 0)
    n := n
    h := false
    c := c || (!n && decide (v > 0xFF)) }

/-! ### 16-bit primitives -/

/-- What a 16-bit primitive answers. -/
structure Alu16Result where
  res : Word
  h : Bool
  c : Bool
  deriving DecidableEq, Repr

/-- `add16(a, b)` (42_alu16.md R213): H is the carry out of bit 11, C the carry out of bit 15. -/
def add16 (a b : Word) : Alu16Result :=
  { res := BitVec.ofNat 16 (a.toNat + b.toNat)
    h := decide ((a &&& 0x0FFF).toNat + (b &&& 0x0FFF).toNat > 0x0FFF)
    c := decide (a.toNat + b.toNat > 0xFFFF) }

/-- `addSPe(sp, e)` (42_alu16.md R215): the flags are those of an unsigned add to the low byte. -/
def addSpE (sp : Word) (e : Byte) : Alu16Result :=
  { res := sp + sext16 e
    h := decide ((sp &&& 0x000F).toNat + (e &&& 0x0F).toNat > 0x0F)
    c := decide ((sp &&& 0x00FF).toNat + e.toNat > 0xFF) }

/-! ### Rotates, shifts, bits -/

/-- Each rotate or shift kind (43_rotate_shift_bit.md R231 to R243): the result and the bit that goes to C, from
the value and the old carry. SWAP's carry is 0 (R242). -/
def rotate8 (k : RotOp) (v : Byte) (cin : Bool) : Byte × Bool :=
  match k with
  | .rlc => ((v <<< 1) ||| (BitVec.ofBool (v.getLsbD 7)).zeroExtend 8, v.getLsbD 7)
  | .rrc => ((v >>> 1) ||| ((BitVec.ofBool (v.getLsbD 0)).zeroExtend 8 <<< 7), v.getLsbD 0)
  | .rl => ((v <<< 1) ||| (BitVec.ofBool cin).zeroExtend 8, v.getLsbD 7)
  | .rr => ((v >>> 1) ||| ((BitVec.ofBool cin).zeroExtend 8 <<< 7), v.getLsbD 0)
  | .sla => (v <<< 1, v.getLsbD 7)
  | .sra => ((v >>> 1) ||| (v &&& 0x80), v.getLsbD 0)
  | .swap => (((v &&& 0x0F) <<< 4) ||| (v >>> 4), false)
  | .srl => (v >>> 1, v.getLsbD 0)

/-- The byte with only bit `b` set. -/
def bitMask (b : BitVec 3) : Byte := (1 : Byte) <<< b.toNat

/-- `v[b]` (00_scope.md R7). -/
def bitOf (v : Byte) (b : BitVec 3) : Bool := v.getLsbD b.toNat

/-- RES (43_rotate_shift_bit.md R245): bit `b` cleared. -/
def resBit (v : Byte) (b : BitVec 3) : Byte := v &&& ~~~(bitMask b)

/-- SET (43_rotate_shift_bit.md R246): bit `b` set. -/
def setBit (v : Byte) (b : BitVec 3) : Byte := v ||| bitMask b

end Sys2Proof.Machine
end

