-- ==== Sys2Proof/Machine/Operands.lean ====
section
/-! DEFINITION. Every operand form (30_encoding.md R103 to R106): the 8-bit operand `r8` with `(HL)` among its
values, the 16-bit selectors, the conditions, and the addresses a form computes. -/

namespace Sys2Proof.Machine

/-- The register of an `r8` operand that is one; `(HL)` is none (30_encoding.md R103). -/
def regOf (s : State) : R8 → Option Byte
  | .b => some s.regs.b
  | .c => some s.regs.c
  | .d => some s.regs.d
  | .e => some s.regs.e
  | .h => some s.regs.h
  | .l => some s.regs.l
  | .atHl => none
  | .a => some s.regs.a

/-- `r8[i]` (30_encoding.md R103): the operand's value, and the state after reading it. -/
def readR8 (o : R8) (s : State) : Byte × State :=
  match o with
  | .b => (s.regs.b, s)
  | .c => (s.regs.c, s)
  | .d => (s.regs.d, s)
  | .e => (s.regs.e, s)
  | .h => (s.regs.h, s)
  | .l => (s.regs.l, s)
  | .atHl => readByte s (getHl s)
  | .a => (s.regs.a, s)

/-- `r8[i] <- v` (30_encoding.md R103). -/
def writeR8 (o : R8) (v : Byte) (s : State) : State :=
  match o with
  | .b => { s with regs := { s.regs with b := v } }
  | .c => { s with regs := { s.regs with c := v } }
  | .d => { s with regs := { s.regs with d := v } }
  | .e => { s with regs := { s.regs with e := v } }
  | .h => { s with regs := { s.regs with h := v } }
  | .l => { s with regs := { s.regs with l := v } }
  | .atHl => writeByte s (getHl s) v
  | .a => setA s v

/-- The byte accesses of a form with one `r8` operand: one figure for a register, another for `(HL)`
(70_reset_and_hazards.md R397). -/
def r8Accesses (o : R8) (reg mem : Nat) : Nat := if o = .atHl then mem else reg

/-- `r16[p]` (30_encoding.md R104). -/
def readR16 (r : R16) (s : State) : Word :=
  match r with
  | .bc => getBc s
  | .de => getDe s
  | .hl => getHl s
  | .sp => s.regs.sp

/-- `r16[p] <- v` (30_encoding.md R104). -/
def writeR16 (r : R16) (v : Word) (s : State) : State :=
  match r with
  | .bc => setBc s v
  | .de => setDe s v
  | .hl => setHl s v
  | .sp => setSp s v

/-- `r16stk[p]` (30_encoding.md R104). -/
def readStk (r : R16Stk) (s : State) : Word :=
  match r with
  | .bc => getBc s
  | .de => getDe s
  | .hl => getHl s
  | .af => getAf s

/-- `r16stk[p] <- v` (30_encoding.md R104), AF by 10_state.md R22. -/
def writeStk (r : R16Stk) (v : Word) (s : State) : State :=
  match r with
  | .bc => setBc s v
  | .de => setDe s v
  | .hl => setHl s v
  | .af => setAf s v

/-- The address of an `r16mem` operand (30_encoding.md R104). -/
def memAddr (m : R16Mem) (s : State) : Addr :=
  match m with
  | .bc => getBc s
  | .de => getDe s
  | .hlInc => getHl s
  | .hlDec => getHl s

/-- What an `r16mem` operand does to HL after the access (30_encoding.md R104, 42_alu16.md R210). -/
def memAfter (m : R16Mem) (s : State) : State :=
  match m with
  | .bc => s
  | .de => s
  | .hlInc => setHl s (getHl s + 1)
  | .hlDec => setHl s (getHl s - 1)

/-- The address `0xFF00 | n` of the LDH and `(C)` forms (30_encoding.md R106). -/
def highAddr (n : Byte) : Addr := mkWord 0xFF n

/-- `cond(cc)` (44_control.md R270). -/
def condHolds (cc : Cc) (s : State) : Bool :=
  match cc with
  | .nz => !flagZ s
  | .z => flagZ s
  | .nc => !flagC s
  | .c => flagC s

/-- `zext_16(t * 8)`, the target of RST (44_control.md R281). -/
def rstTarget (t : BitVec 3) : Addr := BitVec.ofNat 16 (t.toNat * 8)

/-- An `r8` operand from its field (30_encoding.md R103). -/
def r8OfField (i : BitVec 3) : R8 :=
  match i.toNat with
  | 0 => .b
  | 1 => .c
  | 2 => .d
  | 3 => .e
  | 4 => .h
  | 5 => .l
  | 6 => .atHl
  | _ => .a

/-- An `r16` selector from its field (30_encoding.md R104). -/
def r16OfField (p : BitVec 2) : R16 :=
  match p.toNat with
  | 0 => .bc
  | 1 => .de
  | 2 => .hl
  | _ => .sp

/-- An `r16stk` selector from its field (30_encoding.md R104). -/
def stkOfField (p : BitVec 2) : R16Stk :=
  match p.toNat with
  | 0 => .bc
  | 1 => .de
  | 2 => .hl
  | _ => .af

/-- An `r16mem` selector from its field (30_encoding.md R104). -/
def memOfField (p : BitVec 2) : R16Mem :=
  match p.toNat with
  | 0 => .bc
  | 1 => .de
  | 2 => .hlInc
  | _ => .hlDec

/-- A condition from its field (30_encoding.md R105). -/
def ccOfField (p : BitVec 2) : Cc :=
  match p.toNat with
  | 0 => .nz
  | 1 => .z
  | 2 => .nc
  | _ => .c

/-- An ALU operation from its field (30_encoding.md R107). -/
def aluOfField (i : BitVec 3) : AluOp :=
  match i.toNat with
  | 0 => .add
  | 1 => .adc
  | 2 => .sub
  | 3 => .sbc
  | 4 => .and
  | 5 => .xor
  | 6 => .or
  | _ => .cp

/-- A rotate or shift kind from its field (30_encoding.md R107). -/
def rotOfField (i : BitVec 3) : RotOp :=
  match i.toNat with
  | 0 => .rlc
  | 1 => .rrc
  | 2 => .rl
  | 3 => .rr
  | 4 => .sla
  | 5 => .sra
  | 6 => .swap
  | _ => .srl

end Sys2Proof.Machine
end

