-- ==== Sys2Proof/Machine/Alu16.lean ====
section
/-! DEFINITION. 16-bit arithmetic (42_alu16.md): the shared forms, then one meaning per instruction. -/

namespace Sys2Proof.Machine

/-- `INC r16` (42_alu16.md R210, R211): no flag changes. -/
def incR16 (r : R16) (s : State) : State := charge (writeR16 r (readR16 r s + 1) s) 1 1

/-- `DEC r16` (42_alu16.md R210, R212): no flag changes. -/
def decR16 (r : R16) (s : State) : State := charge (writeR16 r (readR16 r s - 1) s) 1 1

/-- `ADD HL,r16` (42_alu16.md R213, R214): Z stays. -/
def addHlR16 (r : R16) (s : State) : State :=
  let x := add16 (getHl s) (readR16 r s)
  charge (setFlags (setHl s x.res) (flagZ s) false x.h x.c) 1 1

/-- `ADD SP,e8` (42_alu16.md R216). -/
def addSpImm (e : Byte) (s : State) : State :=
  let x := addSpE s.regs.sp e
  charge (setFlags (setSp s x.res) false false x.h x.c) 2 2

/-- `LD HL,SP+e8` (42_alu16.md R217): SP is not written. -/
def ldHlSpE (e : Byte) (s : State) : State :=
  let x := addSpE s.regs.sp e
  charge (setFlags (setHl s x.res) false false x.h x.c) 2 1

/-! ### The instructions -/

/-- `INC BC` (R211). -/
def execIncBc (s : State) : Host.Outcome State Fault Refusal :=
  .next (incR16 .bc s)

/-- `ADD HL,BC` (R214). -/
def execAddHlBc (s : State) : Host.Outcome State Fault Refusal :=
  .next (addHlR16 .bc s)

/-- `DEC BC` (R212). -/
def execDecBc (s : State) : Host.Outcome State Fault Refusal :=
  .next (decR16 .bc s)

/-- `INC DE` (R211). -/
def execIncDe (s : State) : Host.Outcome State Fault Refusal :=
  .next (incR16 .de s)

/-- `ADD HL,DE` (R214). -/
def execAddHlDe (s : State) : Host.Outcome State Fault Refusal :=
  .next (addHlR16 .de s)

/-- `DEC DE` (R212). -/
def execDecDe (s : State) : Host.Outcome State Fault Refusal :=
  .next (decR16 .de s)

/-- `INC HL` (R211). -/
def execIncHl (s : State) : Host.Outcome State Fault Refusal :=
  .next (incR16 .hl s)

/-- `ADD HL,HL` (R214). -/
def execAddHlHl (s : State) : Host.Outcome State Fault Refusal :=
  .next (addHlR16 .hl s)

/-- `DEC HL` (R212). -/
def execDecHl (s : State) : Host.Outcome State Fault Refusal :=
  .next (decR16 .hl s)

/-- `INC SP` (R211). -/
def execIncSp (s : State) : Host.Outcome State Fault Refusal :=
  .next (incR16 .sp s)

/-- `ADD HL,SP` (R214). -/
def execAddHlSp (s : State) : Host.Outcome State Fault Refusal :=
  .next (addHlR16 .sp s)

/-- `DEC SP` (R212). -/
def execDecSp (s : State) : Host.Outcome State Fault Refusal :=
  .next (decR16 .sp s)

/-- `ADD SP,e8` (R216). -/
def execAddSpE8 (e8 : Byte) (s : State) : Host.Outcome State Fault Refusal :=
  .next (addSpImm e8 s)

/-- `LD HL,SP+e8` (R217). -/
def execLdHlSpE8 (e8 : Byte) (s : State) : Host.Outcome State Fault Refusal :=
  .next (ldHlSpE e8 s)

end Sys2Proof.Machine
end

