-- ==== Sys2Proof/Machine/Alu8.lean ====
section
/-! DEFINITION. 8-bit arithmetic and logic (41_alu8.md): the shared forms, then one meaning per instruction. -/

namespace Sys2Proof.Machine

/-- Write back what an ALU operation answered: A but for CP (41_alu8.md R187), and the four flags. -/
def aluWriteBack (op : AluOp) (x : AluResult) (s : State) : State :=
  setFlags (if op = .cp then s else setA s x.res) x.z x.n x.h x.c

/-- `op A,r8` (41_alu8.md R173, R175, R177, R179, R181, R183, R185, R187). -/
def aluR8 (op : AluOp) (o : R8) (s : State) : State :=
  let r := readR8 o s
  charge (aluWriteBack op (aluCompute op s.regs.a r.1 (flagC s)) r.2) (r8Accesses o 1 2) 0

/-- `op A,d8` (41_alu8.md R174, R176, R178, R180, R182, R184, R186, R188). -/
def aluImm (op : AluOp) (v : Byte) (s : State) : State :=
  charge (aluWriteBack op (aluCompute op s.regs.a v (flagC s)) s) 2 0

/-- `INC r8` (41_alu8.md R190): `(HL)` is read once and written once. -/
def incR8 (dst : R8) (s : State) : State :=
  let r := readR8 dst s
  let x := inc8 r.1 (flagC s)
  charge (setFlags (writeR8 dst x.res r.2) x.z x.n x.h x.c) (r8Accesses dst 1 3) 0

/-- `DEC r8` (41_alu8.md R191). -/
def decR8 (dst : R8) (s : State) : State :=
  let r := readR8 dst s
  let x := dec8 r.1 (flagC s)
  charge (setFlags (writeR8 dst x.res r.2) x.z x.n x.h x.c) (r8Accesses dst 1 3) 0

/-- `DAA` (41_alu8.md R192). -/
def daaA (s : State) : State :=
  let x := daa8 s.regs.a (flagN s) (flagH s) (flagC s)
  charge (setFlags (setA s x.res) x.z x.n x.h x.c) 1 0

/-- `CPL` (41_alu8.md R193). -/
def cplA (s : State) : State :=
  charge (setFlags (setA s (~~~s.regs.a)) (flagZ s) true true (flagC s)) 1 0

/-- `SCF` (41_alu8.md R194). -/
def scfF (s : State) : State := charge (setFlags s (flagZ s) false false true) 1 0

/-- `CCF` (41_alu8.md R195). -/
def ccfF (s : State) : State := charge (setFlags s (flagZ s) false false (!flagC s)) 1 0

/-! ### The instructions -/

/-- `INC B` (R190). -/
def execIncB (s : State) : Host.Outcome State Fault Refusal :=
  .next (incR8 .b s)

/-- `DEC B` (R191). -/
def execDecB (s : State) : Host.Outcome State Fault Refusal :=
  .next (decR8 .b s)

/-- `INC C` (R190). -/
def execIncC (s : State) : Host.Outcome State Fault Refusal :=
  .next (incR8 .c s)

/-- `DEC C` (R191). -/
def execDecC (s : State) : Host.Outcome State Fault Refusal :=
  .next (decR8 .c s)

/-- `INC D` (R190). -/
def execIncD (s : State) : Host.Outcome State Fault Refusal :=
  .next (incR8 .d s)

/-- `DEC D` (R191). -/
def execDecD (s : State) : Host.Outcome State Fault Refusal :=
  .next (decR8 .d s)

/-- `INC E` (R190). -/
def execIncE (s : State) : Host.Outcome State Fault Refusal :=
  .next (incR8 .e s)

/-- `DEC E` (R191). -/
def execDecE (s : State) : Host.Outcome State Fault Refusal :=
  .next (decR8 .e s)

/-- `INC H` (R190). -/
def execIncH (s : State) : Host.Outcome State Fault Refusal :=
  .next (incR8 .h s)

/-- `DEC H` (R191). -/
def execDecH (s : State) : Host.Outcome State Fault Refusal :=
  .next (decR8 .h s)

/-- `DAA` (R192). -/
def execDaa (s : State) : Host.Outcome State Fault Refusal :=
  .next (daaA s)

/-- `INC L` (R190). -/
def execIncL (s : State) : Host.Outcome State Fault Refusal :=
  .next (incR8 .l s)

/-- `DEC L` (R191). -/
def execDecL (s : State) : Host.Outcome State Fault Refusal :=
  .next (decR8 .l s)

/-- `CPL` (R193). -/
def execCpl (s : State) : Host.Outcome State Fault Refusal :=
  .next (cplA s)

/-- `INC (HL)` (R190). -/
def execIncAtHl (s : State) : Host.Outcome State Fault Refusal :=
  .next (incR8 .atHl s)

/-- `DEC (HL)` (R191). -/
def execDecAtHl (s : State) : Host.Outcome State Fault Refusal :=
  .next (decR8 .atHl s)

/-- `SCF` (R194). -/
def execScf (s : State) : Host.Outcome State Fault Refusal :=
  .next (scfF s)

/-- `INC A` (R190). -/
def execIncA (s : State) : Host.Outcome State Fault Refusal :=
  .next (incR8 .a s)

/-- `DEC A` (R191). -/
def execDecA (s : State) : Host.Outcome State Fault Refusal :=
  .next (decR8 .a s)

/-- `CCF` (R195). -/
def execCcf (s : State) : Host.Outcome State Fault Refusal :=
  .next (ccfF s)

/-- `ADD A,B` (R173). -/
def execAddAB (s : State) : Host.Outcome State Fault Refusal :=
  .next (aluR8 .add .b s)

/-- `ADD A,C` (R173). -/
def execAddAC (s : State) : Host.Outcome State Fault Refusal :=
  .next (aluR8 .add .c s)

/-- `ADD A,D` (R173). -/
def execAddAD (s : State) : Host.Outcome State Fault Refusal :=
  .next (aluR8 .add .d s)

/-- `ADD A,E` (R173). -/
def execAddAE (s : State) : Host.Outcome State Fault Refusal :=
  .next (aluR8 .add .e s)

/-- `ADD A,H` (R173). -/
def execAddAH (s : State) : Host.Outcome State Fault Refusal :=
  .next (aluR8 .add .h s)

/-- `ADD A,L` (R173). -/
def execAddAL (s : State) : Host.Outcome State Fault Refusal :=
  .next (aluR8 .add .l s)

/-- `ADD A,(HL)` (R173). -/
def execAddAAtHl (s : State) : Host.Outcome State Fault Refusal :=
  .next (aluR8 .add .atHl s)

/-- `ADD A,A` (R173). -/
def execAddAA (s : State) : Host.Outcome State Fault Refusal :=
  .next (aluR8 .add .a s)

/-- `ADC A,B` (R175). -/
def execAdcAB (s : State) : Host.Outcome State Fault Refusal :=
  .next (aluR8 .adc .b s)

/-- `ADC A,C` (R175). -/
def execAdcAC (s : State) : Host.Outcome State Fault Refusal :=
  .next (aluR8 .adc .c s)

/-- `ADC A,D` (R175). -/
def execAdcAD (s : State) : Host.Outcome State Fault Refusal :=
  .next (aluR8 .adc .d s)

/-- `ADC A,E` (R175). -/
def execAdcAE (s : State) : Host.Outcome State Fault Refusal :=
  .next (aluR8 .adc .e s)

/-- `ADC A,H` (R175). -/
def execAdcAH (s : State) : Host.Outcome State Fault Refusal :=
  .next (aluR8 .adc .h s)

/-- `ADC A,L` (R175). -/
def execAdcAL (s : State) : Host.Outcome State Fault Refusal :=
  .next (aluR8 .adc .l s)

/-- `ADC A,(HL)` (R175). -/
def execAdcAAtHl (s : State) : Host.Outcome State Fault Refusal :=
  .next (aluR8 .adc .atHl s)

/-- `ADC A,A` (R175). -/
def execAdcAA (s : State) : Host.Outcome State Fault Refusal :=
  .next (aluR8 .adc .a s)

/-- `SUB A,B` (R177). -/
def execSubAB (s : State) : Host.Outcome State Fault Refusal :=
  .next (aluR8 .sub .b s)

/-- `SUB A,C` (R177). -/
def execSubAC (s : State) : Host.Outcome State Fault Refusal :=
  .next (aluR8 .sub .c s)

/-- `SUB A,D` (R177). -/
def execSubAD (s : State) : Host.Outcome State Fault Refusal :=
  .next (aluR8 .sub .d s)

/-- `SUB A,E` (R177). -/
def execSubAE (s : State) : Host.Outcome State Fault Refusal :=
  .next (aluR8 .sub .e s)

/-- `SUB A,H` (R177). -/
def execSubAH (s : State) : Host.Outcome State Fault Refusal :=
  .next (aluR8 .sub .h s)

/-- `SUB A,L` (R177). -/
def execSubAL (s : State) : Host.Outcome State Fault Refusal :=
  .next (aluR8 .sub .l s)

/-- `SUB A,(HL)` (R177). -/
def execSubAAtHl (s : State) : Host.Outcome State Fault Refusal :=
  .next (aluR8 .sub .atHl s)

/-- `SUB A,A` (R177). -/
def execSubAA (s : State) : Host.Outcome State Fault Refusal :=
  .next (aluR8 .sub .a s)

/-- `SBC A,B` (R179). -/
def execSbcAB (s : State) : Host.Outcome State Fault Refusal :=
  .next (aluR8 .sbc .b s)

/-- `SBC A,C` (R179). -/
def execSbcAC (s : State) : Host.Outcome State Fault Refusal :=
  .next (aluR8 .sbc .c s)

/-- `SBC A,D` (R179). -/
def execSbcAD (s : State) : Host.Outcome State Fault Refusal :=
  .next (aluR8 .sbc .d s)

/-- `SBC A,E` (R179). -/
def execSbcAE (s : State) : Host.Outcome State Fault Refusal :=
  .next (aluR8 .sbc .e s)

/-- `SBC A,H` (R179). -/
def execSbcAH (s : State) : Host.Outcome State Fault Refusal :=
  .next (aluR8 .sbc .h s)

/-- `SBC A,L` (R179). -/
def execSbcAL (s : State) : Host.Outcome State Fault Refusal :=
  .next (aluR8 .sbc .l s)

/-- `SBC A,(HL)` (R179). -/
def execSbcAAtHl (s : State) : Host.Outcome State Fault Refusal :=
  .next (aluR8 .sbc .atHl s)

/-- `SBC A,A` (R179). -/
def execSbcAA (s : State) : Host.Outcome State Fault Refusal :=
  .next (aluR8 .sbc .a s)

/-- `AND A,B` (R181). -/
def execAndAB (s : State) : Host.Outcome State Fault Refusal :=
  .next (aluR8 .and .b s)

/-- `AND A,C` (R181). -/
def execAndAC (s : State) : Host.Outcome State Fault Refusal :=
  .next (aluR8 .and .c s)

/-- `AND A,D` (R181). -/
def execAndAD (s : State) : Host.Outcome State Fault Refusal :=
  .next (aluR8 .and .d s)

/-- `AND A,E` (R181). -/
def execAndAE (s : State) : Host.Outcome State Fault Refusal :=
  .next (aluR8 .and .e s)

/-- `AND A,H` (R181). -/
def execAndAH (s : State) : Host.Outcome State Fault Refusal :=
  .next (aluR8 .and .h s)

/-- `AND A,L` (R181). -/
def execAndAL (s : State) : Host.Outcome State Fault Refusal :=
  .next (aluR8 .and .l s)

/-- `AND A,(HL)` (R181). -/
def execAndAAtHl (s : State) : Host.Outcome State Fault Refusal :=
  .next (aluR8 .and .atHl s)

/-- `AND A,A` (R181). -/
def execAndAA (s : State) : Host.Outcome State Fault Refusal :=
  .next (aluR8 .and .a s)

/-- `XOR A,B` (R183). -/
def execXorAB (s : State) : Host.Outcome State Fault Refusal :=
  .next (aluR8 .xor .b s)

/-- `XOR A,C` (R183). -/
def execXorAC (s : State) : Host.Outcome State Fault Refusal :=
  .next (aluR8 .xor .c s)

/-- `XOR A,D` (R183). -/
def execXorAD (s : State) : Host.Outcome State Fault Refusal :=
  .next (aluR8 .xor .d s)

/-- `XOR A,E` (R183). -/
def execXorAE (s : State) : Host.Outcome State Fault Refusal :=
  .next (aluR8 .xor .e s)

/-- `XOR A,H` (R183). -/
def execXorAH (s : State) : Host.Outcome State Fault Refusal :=
  .next (aluR8 .xor .h s)

/-- `XOR A,L` (R183). -/
def execXorAL (s : State) : Host.Outcome State Fault Refusal :=
  .next (aluR8 .xor .l s)

/-- `XOR A,(HL)` (R183). -/
def execXorAAtHl (s : State) : Host.Outcome State Fault Refusal :=
  .next (aluR8 .xor .atHl s)

/-- `XOR A,A` (R183). -/
def execXorAA (s : State) : Host.Outcome State Fault Refusal :=
  .next (aluR8 .xor .a s)

/-- `OR A,B` (R185). -/
def execOrAB (s : State) : Host.Outcome State Fault Refusal :=
  .next (aluR8 .or .b s)

/-- `OR A,C` (R185). -/
def execOrAC (s : State) : Host.Outcome State Fault Refusal :=
  .next (aluR8 .or .c s)

/-- `OR A,D` (R185). -/
def execOrAD (s : State) : Host.Outcome State Fault Refusal :=
  .next (aluR8 .or .d s)

/-- `OR A,E` (R185). -/
def execOrAE (s : State) : Host.Outcome State Fault Refusal :=
  .next (aluR8 .or .e s)

/-- `OR A,H` (R185). -/
def execOrAH (s : State) : Host.Outcome State Fault Refusal :=
  .next (aluR8 .or .h s)

/-- `OR A,L` (R185). -/
def execOrAL (s : State) : Host.Outcome State Fault Refusal :=
  .next (aluR8 .or .l s)

/-- `OR A,(HL)` (R185). -/
def execOrAAtHl (s : State) : Host.Outcome State Fault Refusal :=
  .next (aluR8 .or .atHl s)

/-- `OR A,A` (R185). -/
def execOrAA (s : State) : Host.Outcome State Fault Refusal :=
  .next (aluR8 .or .a s)

/-- `CP A,B` (R187). -/
def execCpAB (s : State) : Host.Outcome State Fault Refusal :=
  .next (aluR8 .cp .b s)

/-- `CP A,C` (R187). -/
def execCpAC (s : State) : Host.Outcome State Fault Refusal :=
  .next (aluR8 .cp .c s)

/-- `CP A,D` (R187). -/
def execCpAD (s : State) : Host.Outcome State Fault Refusal :=
  .next (aluR8 .cp .d s)

/-- `CP A,E` (R187). -/
def execCpAE (s : State) : Host.Outcome State Fault Refusal :=
  .next (aluR8 .cp .e s)

/-- `CP A,H` (R187). -/
def execCpAH (s : State) : Host.Outcome State Fault Refusal :=
  .next (aluR8 .cp .h s)

/-- `CP A,L` (R187). -/
def execCpAL (s : State) : Host.Outcome State Fault Refusal :=
  .next (aluR8 .cp .l s)

/-- `CP A,(HL)` (R187). -/
def execCpAAtHl (s : State) : Host.Outcome State Fault Refusal :=
  .next (aluR8 .cp .atHl s)

/-- `CP A,A` (R187). -/
def execCpAA (s : State) : Host.Outcome State Fault Refusal :=
  .next (aluR8 .cp .a s)

/-- `ADD A,d8` (R174). -/
def execAddAD8 (d8 : Byte) (s : State) : Host.Outcome State Fault Refusal :=
  .next (aluImm .add d8 s)

/-- `ADC A,d8` (R176). -/
def execAdcAD8 (d8 : Byte) (s : State) : Host.Outcome State Fault Refusal :=
  .next (aluImm .adc d8 s)

/-- `SUB A,d8` (R178). -/
def execSubAD8 (d8 : Byte) (s : State) : Host.Outcome State Fault Refusal :=
  .next (aluImm .sub d8 s)

/-- `SBC A,d8` (R180). -/
def execSbcAD8 (d8 : Byte) (s : State) : Host.Outcome State Fault Refusal :=
  .next (aluImm .sbc d8 s)

/-- `AND A,d8` (R182). -/
def execAndAD8 (d8 : Byte) (s : State) : Host.Outcome State Fault Refusal :=
  .next (aluImm .and d8 s)

/-- `XOR A,d8` (R184). -/
def execXorAD8 (d8 : Byte) (s : State) : Host.Outcome State Fault Refusal :=
  .next (aluImm .xor d8 s)

/-- `OR A,d8` (R186). -/
def execOrAD8 (d8 : Byte) (s : State) : Host.Outcome State Fault Refusal :=
  .next (aluImm .or d8 s)

/-- `CP A,d8` (R188). -/
def execCpAD8 (d8 : Byte) (s : State) : Host.Outcome State Fault Refusal :=
  .next (aluImm .cp d8 s)

end Sys2Proof.Machine
end

