-- ==== Sys2Proof/Machine/Control.lean ====
section
/-! DEFINITION. Control transfer (44_control.md): the shared forms, then one meaning per instruction. PC is the
address of the byte after the whole instruction. -/

namespace Sys2Proof.Machine

/-- `JP a16` (44_control.md R271). -/
def jumpAbs (a : Addr) (s : State) : State := charge (setPc s a) 3 1

/-- `JP cc,a16` (44_control.md R272). -/
def jumpAbsCc (cc : Cc) (a : Addr) (s : State) : State :=
  if condHolds cc s then charge (setPc s a) 3 1 else charge s 3 0

/-- `JP HL` (44_control.md R273). -/
def jumpHl (s : State) : State := charge (setPc s (getHl s)) 1 0

/-- `JR e8` (44_control.md R274). -/
def jumpRel (e : Byte) (s : State) : State := charge (setPc s (s.regs.pc + sext16 e)) 2 1

/-- `JR cc,e8` (44_control.md R275). -/
def jumpRelCc (cc : Cc) (e : Byte) (s : State) : State :=
  if condHolds cc s then charge (setPc s (s.regs.pc + sext16 e)) 2 1 else charge s 2 0

/-- `CALL a16` (44_control.md R276). -/
def callAbs (a : Addr) (s : State) : State := charge (setPc (push16 s s.regs.pc) a) 5 1

/-- `CALL cc,a16` (44_control.md R277). -/
def callAbsCc (cc : Cc) (a : Addr) (s : State) : State :=
  if condHolds cc s then charge (setPc (push16 s s.regs.pc) a) 5 1 else charge s 3 0

/-- `RET` (44_control.md R278). -/
def returnPlain (s : State) : State :=
  let r := pop16 s
  charge (setPc r.2 r.1) 3 1

/-- `RET cc` (44_control.md R279). -/
def returnCc (cc : Cc) (s : State) : State :=
  if condHolds cc s then
    let r := pop16 s
    charge (setPc r.2 r.1) 3 2
  else charge s 1 1

/-- `RETI` (44_control.md R280). -/
def returnEnable (s : State) : State := charge (returnFromInterrupt s) 3 1

/-- `RST t` (44_control.md R281). -/
def restart (t : BitVec 3) (s : State) : State :=
  charge (setPc (push16 s s.regs.pc) (rstTarget t)) 3 1

/-! ### The instructions -/

/-- `JR e8` (R274). -/
def execJrE8 (e8 : Byte) (s : State) : Host.Outcome State Fault Refusal :=
  .next (jumpRel e8 s)

/-- `JR NZ,e8` (R275). -/
def execJrNzE8 (e8 : Byte) (s : State) : Host.Outcome State Fault Refusal :=
  .next (jumpRelCc .nz e8 s)

/-- `JR Z,e8` (R275). -/
def execJrZE8 (e8 : Byte) (s : State) : Host.Outcome State Fault Refusal :=
  .next (jumpRelCc .z e8 s)

/-- `JR NC,e8` (R275). -/
def execJrNcE8 (e8 : Byte) (s : State) : Host.Outcome State Fault Refusal :=
  .next (jumpRelCc .nc e8 s)

/-- `JR C,e8` (R275). -/
def execJrCE8 (e8 : Byte) (s : State) : Host.Outcome State Fault Refusal :=
  .next (jumpRelCc .c e8 s)

/-- `RET NZ` (R279). -/
def execRetNz (s : State) : Host.Outcome State Fault Refusal :=
  .next (returnCc .nz s)

/-- `JP NZ,a16` (R272). -/
def execJpNzA16 (a16 : Word) (s : State) : Host.Outcome State Fault Refusal :=
  .next (jumpAbsCc .nz a16 s)

/-- `JP a16` (R271). -/
def execJpA16 (a16 : Word) (s : State) : Host.Outcome State Fault Refusal :=
  .next (jumpAbs a16 s)

/-- `CALL NZ,a16` (R277). -/
def execCallNzA16 (a16 : Word) (s : State) : Host.Outcome State Fault Refusal :=
  .next (callAbsCc .nz a16 s)

/-- `RST 0x00` (R281). -/
def execRst00 (s : State) : Host.Outcome State Fault Refusal :=
  .next (restart 0 s)

/-- `RET Z` (R279). -/
def execRetZ (s : State) : Host.Outcome State Fault Refusal :=
  .next (returnCc .z s)

/-- `RET` (R278). -/
def execRet (s : State) : Host.Outcome State Fault Refusal :=
  .next (returnPlain s)

/-- `JP Z,a16` (R272). -/
def execJpZA16 (a16 : Word) (s : State) : Host.Outcome State Fault Refusal :=
  .next (jumpAbsCc .z a16 s)

/-- `CALL Z,a16` (R277). -/
def execCallZA16 (a16 : Word) (s : State) : Host.Outcome State Fault Refusal :=
  .next (callAbsCc .z a16 s)

/-- `CALL a16` (R276). -/
def execCallA16 (a16 : Word) (s : State) : Host.Outcome State Fault Refusal :=
  .next (callAbs a16 s)

/-- `RST 0x08` (R281). -/
def execRst08 (s : State) : Host.Outcome State Fault Refusal :=
  .next (restart 1 s)

/-- `RET NC` (R279). -/
def execRetNc (s : State) : Host.Outcome State Fault Refusal :=
  .next (returnCc .nc s)

/-- `JP NC,a16` (R272). -/
def execJpNcA16 (a16 : Word) (s : State) : Host.Outcome State Fault Refusal :=
  .next (jumpAbsCc .nc a16 s)

/-- `CALL NC,a16` (R277). -/
def execCallNcA16 (a16 : Word) (s : State) : Host.Outcome State Fault Refusal :=
  .next (callAbsCc .nc a16 s)

/-- `RST 0x10` (R281). -/
def execRst10 (s : State) : Host.Outcome State Fault Refusal :=
  .next (restart 2 s)

/-- `RET C` (R279). -/
def execRetC (s : State) : Host.Outcome State Fault Refusal :=
  .next (returnCc .c s)

/-- `RETI` (R280). -/
def execReti (s : State) : Host.Outcome State Fault Refusal :=
  .next (returnEnable s)

/-- `JP C,a16` (R272). -/
def execJpCA16 (a16 : Word) (s : State) : Host.Outcome State Fault Refusal :=
  .next (jumpAbsCc .c a16 s)

/-- `CALL C,a16` (R277). -/
def execCallCA16 (a16 : Word) (s : State) : Host.Outcome State Fault Refusal :=
  .next (callAbsCc .c a16 s)

/-- `RST 0x18` (R281). -/
def execRst18 (s : State) : Host.Outcome State Fault Refusal :=
  .next (restart 3 s)

/-- `RST 0x20` (R281). -/
def execRst20 (s : State) : Host.Outcome State Fault Refusal :=
  .next (restart 4 s)

/-- `JP HL` (R273). -/
def execJpHl (s : State) : Host.Outcome State Fault Refusal :=
  .next (jumpHl s)

/-- `RST 0x28` (R281). -/
def execRst28 (s : State) : Host.Outcome State Fault Refusal :=
  .next (restart 5 s)

/-- `RST 0x30` (R281). -/
def execRst30 (s : State) : Host.Outcome State Fault Refusal :=
  .next (restart 6 s)

/-- `RST 0x38` (R281). -/
def execRst38 (s : State) : Host.Outcome State Fault Refusal :=
  .next (restart 7 s)

end Sys2Proof.Machine
end

