-- ==== Sys2Proof/Machine/Load.lean ====
section
/-! DEFINITION. Loads, stores and stack transfers (40_load_store.md): the shared forms, then one meaning per
instruction. In every one PC is already past the instruction, and the cost is that of 70_reset_and_hazards.md
R396. -/

namespace Sys2Proof.Machine

/-- `LD r8,r8'` (40_load_store.md R130). -/
def loadR8R8 (dst o : R8) (s : State) : State :=
  let r := readR8 o s
  charge (writeR8 dst r.1 r.2) (if dst = .atHl ∨ o = .atHl then 2 else 1) 0

/-- `LD r8,d8` (40_load_store.md R131). -/
def loadR8Imm (dst : R8) (v : Byte) (s : State) : State :=
  charge (writeR8 dst v s) (r8Accesses dst 2 3) 0

/-- `LD A,(BC)`, `(DE)`, `(HL+)`, `(HL-)` (40_load_store.md R132, R134, R135). -/
def loadAMem (m : R16Mem) (s : State) : State :=
  let r := readByte s (memAddr m s)
  charge (memAfter m (setA r.2 r.1)) 2 0

/-- `LD (BC),A`, `(DE)`, `(HL+)`, `(HL-)` (40_load_store.md R133, R136, R137). -/
def storeAMem (m : R16Mem) (s : State) : State :=
  charge (memAfter m (writeByte s (memAddr m s) s.regs.a)) 2 0

/-- A from the byte at an address, with as many byte accesses as given (40_load_store.md R138, R140, R142). -/
def loadAAt (a : Addr) (n : Nat) (s : State) : State :=
  let r := readByte s a
  charge (setA r.2 r.1) n 0

/-- A to the byte at an address, with as many byte accesses as given (40_load_store.md R139, R141, R143). -/
def storeAAt (a : Addr) (n : Nat) (s : State) : State :=
  charge (writeByte s a s.regs.a) n 0

/-- `LD r16,d16` (40_load_store.md R144). -/
def loadR16 (r : R16) (v : Word) (s : State) : State := charge (writeR16 r v s) 3 0

/-- `LD (a16),SP` (40_load_store.md R145). -/
def storeSp (a : Addr) (s : State) : State := charge (writeWord s a s.regs.sp) 5 0

/-- `LD SP,HL` (40_load_store.md R146). -/
def ldSpFromHl (s : State) : State := charge (setSp s (getHl s)) 1 1

/-- `POP r16stk` (40_load_store.md R152). -/
def popStk (r : R16Stk) (s : State) : State :=
  let v := pop16 s
  charge (writeStk r v.1 v.2) 3 0

/-- `PUSH r16stk` (40_load_store.md R153). -/
def pushStk (r : R16Stk) (s : State) : State := charge (push16 s (readStk r s)) 3 1

/-! ### The instructions -/

/-- `LD BC,d16` (R144). -/
def execLdBcD16 (d16 : Word) (s : State) : Host.Outcome State Fault Refusal :=
  .next (loadR16 .bc d16 s)

/-- `LD (BC),A` (R133). -/
def execLdAtBcA (s : State) : Host.Outcome State Fault Refusal :=
  .next (storeAMem .bc s)

/-- `LD B,d8` (R131). -/
def execLdBD8 (d8 : Byte) (s : State) : Host.Outcome State Fault Refusal :=
  .next (loadR8Imm .b d8 s)

/-- `LD (a16),SP` (R145). -/
def execLdAtA16Sp (a16 : Word) (s : State) : Host.Outcome State Fault Refusal :=
  .next (storeSp a16 s)

/-- `LD A,(BC)` (R132). -/
def execLdAAtBc (s : State) : Host.Outcome State Fault Refusal :=
  .next (loadAMem .bc s)

/-- `LD C,d8` (R131). -/
def execLdCD8 (d8 : Byte) (s : State) : Host.Outcome State Fault Refusal :=
  .next (loadR8Imm .c d8 s)

/-- `LD DE,d16` (R144). -/
def execLdDeD16 (d16 : Word) (s : State) : Host.Outcome State Fault Refusal :=
  .next (loadR16 .de d16 s)

/-- `LD (DE),A` (R133). -/
def execLdAtDeA (s : State) : Host.Outcome State Fault Refusal :=
  .next (storeAMem .de s)

/-- `LD D,d8` (R131). -/
def execLdDD8 (d8 : Byte) (s : State) : Host.Outcome State Fault Refusal :=
  .next (loadR8Imm .d d8 s)

/-- `LD A,(DE)` (R132). -/
def execLdAAtDe (s : State) : Host.Outcome State Fault Refusal :=
  .next (loadAMem .de s)

/-- `LD E,d8` (R131). -/
def execLdED8 (d8 : Byte) (s : State) : Host.Outcome State Fault Refusal :=
  .next (loadR8Imm .e d8 s)

/-- `LD HL,d16` (R144). -/
def execLdHlD16 (d16 : Word) (s : State) : Host.Outcome State Fault Refusal :=
  .next (loadR16 .hl d16 s)

/-- `LD (HL+),A` (R136). -/
def execLdAtHlIncA (s : State) : Host.Outcome State Fault Refusal :=
  .next (storeAMem .hlInc s)

/-- `LD H,d8` (R131). -/
def execLdHD8 (d8 : Byte) (s : State) : Host.Outcome State Fault Refusal :=
  .next (loadR8Imm .h d8 s)

/-- `LD A,(HL+)` (R134). -/
def execLdAAtHlInc (s : State) : Host.Outcome State Fault Refusal :=
  .next (loadAMem .hlInc s)

/-- `LD L,d8` (R131). -/
def execLdLD8 (d8 : Byte) (s : State) : Host.Outcome State Fault Refusal :=
  .next (loadR8Imm .l d8 s)

/-- `LD SP,d16` (R144). -/
def execLdSpD16 (d16 : Word) (s : State) : Host.Outcome State Fault Refusal :=
  .next (loadR16 .sp d16 s)

/-- `LD (HL-),A` (R137). -/
def execLdAtHlDecA (s : State) : Host.Outcome State Fault Refusal :=
  .next (storeAMem .hlDec s)

/-- `LD (HL),d8` (R131). -/
def execLdAtHlD8 (d8 : Byte) (s : State) : Host.Outcome State Fault Refusal :=
  .next (loadR8Imm .atHl d8 s)

/-- `LD A,(HL-)` (R135). -/
def execLdAAtHlDec (s : State) : Host.Outcome State Fault Refusal :=
  .next (loadAMem .hlDec s)

/-- `LD A,d8` (R131). -/
def execLdAD8 (d8 : Byte) (s : State) : Host.Outcome State Fault Refusal :=
  .next (loadR8Imm .a d8 s)

/-- `LD B,B` (R130). -/
def execLdBB (s : State) : Host.Outcome State Fault Refusal :=
  .next (loadR8R8 .b .b s)

/-- `LD B,C` (R130). -/
def execLdBC (s : State) : Host.Outcome State Fault Refusal :=
  .next (loadR8R8 .b .c s)

/-- `LD B,D` (R130). -/
def execLdBD (s : State) : Host.Outcome State Fault Refusal :=
  .next (loadR8R8 .b .d s)

/-- `LD B,E` (R130). -/
def execLdBE (s : State) : Host.Outcome State Fault Refusal :=
  .next (loadR8R8 .b .e s)

/-- `LD B,H` (R130). -/
def execLdBH (s : State) : Host.Outcome State Fault Refusal :=
  .next (loadR8R8 .b .h s)

/-- `LD B,L` (R130). -/
def execLdBL (s : State) : Host.Outcome State Fault Refusal :=
  .next (loadR8R8 .b .l s)

/-- `LD B,(HL)` (R130). -/
def execLdBAtHl (s : State) : Host.Outcome State Fault Refusal :=
  .next (loadR8R8 .b .atHl s)

/-- `LD B,A` (R130). -/
def execLdBA (s : State) : Host.Outcome State Fault Refusal :=
  .next (loadR8R8 .b .a s)

/-- `LD C,B` (R130). -/
def execLdCB (s : State) : Host.Outcome State Fault Refusal :=
  .next (loadR8R8 .c .b s)

/-- `LD C,C` (R130). -/
def execLdCC (s : State) : Host.Outcome State Fault Refusal :=
  .next (loadR8R8 .c .c s)

/-- `LD C,D` (R130). -/
def execLdCD (s : State) : Host.Outcome State Fault Refusal :=
  .next (loadR8R8 .c .d s)

/-- `LD C,E` (R130). -/
def execLdCE (s : State) : Host.Outcome State Fault Refusal :=
  .next (loadR8R8 .c .e s)

/-- `LD C,H` (R130). -/
def execLdCH (s : State) : Host.Outcome State Fault Refusal :=
  .next (loadR8R8 .c .h s)

/-- `LD C,L` (R130). -/
def execLdCL (s : State) : Host.Outcome State Fault Refusal :=
  .next (loadR8R8 .c .l s)

/-- `LD C,(HL)` (R130). -/
def execLdCAtHl (s : State) : Host.Outcome State Fault Refusal :=
  .next (loadR8R8 .c .atHl s)

/-- `LD C,A` (R130). -/
def execLdCA (s : State) : Host.Outcome State Fault Refusal :=
  .next (loadR8R8 .c .a s)

/-- `LD D,B` (R130). -/
def execLdDB (s : State) : Host.Outcome State Fault Refusal :=
  .next (loadR8R8 .d .b s)

/-- `LD D,C` (R130). -/
def execLdDC (s : State) : Host.Outcome State Fault Refusal :=
  .next (loadR8R8 .d .c s)

/-- `LD D,D` (R130). -/
def execLdDD (s : State) : Host.Outcome State Fault Refusal :=
  .next (loadR8R8 .d .d s)

/-- `LD D,E` (R130). -/
def execLdDE (s : State) : Host.Outcome State Fault Refusal :=
  .next (loadR8R8 .d .e s)

/-- `LD D,H` (R130). -/
def execLdDH (s : State) : Host.Outcome State Fault Refusal :=
  .next (loadR8R8 .d .h s)

/-- `LD D,L` (R130). -/
def execLdDL (s : State) : Host.Outcome State Fault Refusal :=
  .next (loadR8R8 .d .l s)

/-- `LD D,(HL)` (R130). -/
def execLdDAtHl (s : State) : Host.Outcome State Fault Refusal :=
  .next (loadR8R8 .d .atHl s)

/-- `LD D,A` (R130). -/
def execLdDA (s : State) : Host.Outcome State Fault Refusal :=
  .next (loadR8R8 .d .a s)

/-- `LD E,B` (R130). -/
def execLdEB (s : State) : Host.Outcome State Fault Refusal :=
  .next (loadR8R8 .e .b s)

/-- `LD E,C` (R130). -/
def execLdEC (s : State) : Host.Outcome State Fault Refusal :=
  .next (loadR8R8 .e .c s)

/-- `LD E,D` (R130). -/
def execLdED (s : State) : Host.Outcome State Fault Refusal :=
  .next (loadR8R8 .e .d s)

/-- `LD E,E` (R130). -/
def execLdEE (s : State) : Host.Outcome State Fault Refusal :=
  .next (loadR8R8 .e .e s)

/-- `LD E,H` (R130). -/
def execLdEH (s : State) : Host.Outcome State Fault Refusal :=
  .next (loadR8R8 .e .h s)

/-- `LD E,L` (R130). -/
def execLdEL (s : State) : Host.Outcome State Fault Refusal :=
  .next (loadR8R8 .e .l s)

/-- `LD E,(HL)` (R130). -/
def execLdEAtHl (s : State) : Host.Outcome State Fault Refusal :=
  .next (loadR8R8 .e .atHl s)

/-- `LD E,A` (R130). -/
def execLdEA (s : State) : Host.Outcome State Fault Refusal :=
  .next (loadR8R8 .e .a s)

/-- `LD H,B` (R130). -/
def execLdHB (s : State) : Host.Outcome State Fault Refusal :=
  .next (loadR8R8 .h .b s)

/-- `LD H,C` (R130). -/
def execLdHC (s : State) : Host.Outcome State Fault Refusal :=
  .next (loadR8R8 .h .c s)

/-- `LD H,D` (R130). -/
def execLdHD (s : State) : Host.Outcome State Fault Refusal :=
  .next (loadR8R8 .h .d s)

/-- `LD H,E` (R130). -/
def execLdHE (s : State) : Host.Outcome State Fault Refusal :=
  .next (loadR8R8 .h .e s)

/-- `LD H,H` (R130). -/
def execLdHH (s : State) : Host.Outcome State Fault Refusal :=
  .next (loadR8R8 .h .h s)

/-- `LD H,L` (R130). -/
def execLdHL (s : State) : Host.Outcome State Fault Refusal :=
  .next (loadR8R8 .h .l s)

/-- `LD H,(HL)` (R130). -/
def execLdHAtHl (s : State) : Host.Outcome State Fault Refusal :=
  .next (loadR8R8 .h .atHl s)

/-- `LD H,A` (R130). -/
def execLdHA (s : State) : Host.Outcome State Fault Refusal :=
  .next (loadR8R8 .h .a s)

/-- `LD L,B` (R130). -/
def execLdLB (s : State) : Host.Outcome State Fault Refusal :=
  .next (loadR8R8 .l .b s)

/-- `LD L,C` (R130). -/
def execLdLC (s : State) : Host.Outcome State Fault Refusal :=
  .next (loadR8R8 .l .c s)

/-- `LD L,D` (R130). -/
def execLdLD (s : State) : Host.Outcome State Fault Refusal :=
  .next (loadR8R8 .l .d s)

/-- `LD L,E` (R130). -/
def execLdLE (s : State) : Host.Outcome State Fault Refusal :=
  .next (loadR8R8 .l .e s)

/-- `LD L,H` (R130). -/
def execLdLH (s : State) : Host.Outcome State Fault Refusal :=
  .next (loadR8R8 .l .h s)

/-- `LD L,L` (R130). -/
def execLdLL (s : State) : Host.Outcome State Fault Refusal :=
  .next (loadR8R8 .l .l s)

/-- `LD L,(HL)` (R130). -/
def execLdLAtHl (s : State) : Host.Outcome State Fault Refusal :=
  .next (loadR8R8 .l .atHl s)

/-- `LD L,A` (R130). -/
def execLdLA (s : State) : Host.Outcome State Fault Refusal :=
  .next (loadR8R8 .l .a s)

/-- `LD (HL),B` (R130). -/
def execLdAtHlB (s : State) : Host.Outcome State Fault Refusal :=
  .next (loadR8R8 .atHl .b s)

/-- `LD (HL),C` (R130). -/
def execLdAtHlC (s : State) : Host.Outcome State Fault Refusal :=
  .next (loadR8R8 .atHl .c s)

/-- `LD (HL),D` (R130). -/
def execLdAtHlD (s : State) : Host.Outcome State Fault Refusal :=
  .next (loadR8R8 .atHl .d s)

/-- `LD (HL),E` (R130). -/
def execLdAtHlE (s : State) : Host.Outcome State Fault Refusal :=
  .next (loadR8R8 .atHl .e s)

/-- `LD (HL),H` (R130). -/
def execLdAtHlH (s : State) : Host.Outcome State Fault Refusal :=
  .next (loadR8R8 .atHl .h s)

/-- `LD (HL),L` (R130). -/
def execLdAtHlL (s : State) : Host.Outcome State Fault Refusal :=
  .next (loadR8R8 .atHl .l s)

/-- `LD (HL),A` (R130). -/
def execLdAtHlA (s : State) : Host.Outcome State Fault Refusal :=
  .next (loadR8R8 .atHl .a s)

/-- `LD A,B` (R130). -/
def execLdAB (s : State) : Host.Outcome State Fault Refusal :=
  .next (loadR8R8 .a .b s)

/-- `LD A,C` (R130). -/
def execLdAC (s : State) : Host.Outcome State Fault Refusal :=
  .next (loadR8R8 .a .c s)

/-- `LD A,D` (R130). -/
def execLdAD (s : State) : Host.Outcome State Fault Refusal :=
  .next (loadR8R8 .a .d s)

/-- `LD A,E` (R130). -/
def execLdAE (s : State) : Host.Outcome State Fault Refusal :=
  .next (loadR8R8 .a .e s)

/-- `LD A,H` (R130). -/
def execLdAH (s : State) : Host.Outcome State Fault Refusal :=
  .next (loadR8R8 .a .h s)

/-- `LD A,L` (R130). -/
def execLdAL (s : State) : Host.Outcome State Fault Refusal :=
  .next (loadR8R8 .a .l s)

/-- `LD A,(HL)` (R130). -/
def execLdAAtHl (s : State) : Host.Outcome State Fault Refusal :=
  .next (loadR8R8 .a .atHl s)

/-- `LD A,A` (R130). -/
def execLdAA (s : State) : Host.Outcome State Fault Refusal :=
  .next (loadR8R8 .a .a s)

/-- `POP BC` (R152). -/
def execPopBc (s : State) : Host.Outcome State Fault Refusal :=
  .next (popStk .bc s)

/-- `PUSH BC` (R153). -/
def execPushBc (s : State) : Host.Outcome State Fault Refusal :=
  .next (pushStk .bc s)

/-- `POP DE` (R152). -/
def execPopDe (s : State) : Host.Outcome State Fault Refusal :=
  .next (popStk .de s)

/-- `PUSH DE` (R153). -/
def execPushDe (s : State) : Host.Outcome State Fault Refusal :=
  .next (pushStk .de s)

/-- `LDH (a8),A` (R141). -/
def execLdhAtA8A (a8 : Byte) (s : State) : Host.Outcome State Fault Refusal :=
  .next (storeAAt (highAddr a8) 3 s)

/-- `POP HL` (R152). -/
def execPopHl (s : State) : Host.Outcome State Fault Refusal :=
  .next (popStk .hl s)

/-- `LD (C),A` (R143). -/
def execLdAtCA (s : State) : Host.Outcome State Fault Refusal :=
  .next (storeAAt (highAddr s.regs.c) 2 s)

/-- `PUSH HL` (R153). -/
def execPushHl (s : State) : Host.Outcome State Fault Refusal :=
  .next (pushStk .hl s)

/-- `LD (a16),A` (R139). -/
def execLdAtA16A (a16 : Word) (s : State) : Host.Outcome State Fault Refusal :=
  .next (storeAAt a16 4 s)

/-- `LDH A,(a8)` (R140). -/
def execLdhAAtA8 (a8 : Byte) (s : State) : Host.Outcome State Fault Refusal :=
  .next (loadAAt (highAddr a8) 3 s)

/-- `POP AF` (R152). -/
def execPopAf (s : State) : Host.Outcome State Fault Refusal :=
  .next (popStk .af s)

/-- `LD A,(C)` (R142). -/
def execLdAAtC (s : State) : Host.Outcome State Fault Refusal :=
  .next (loadAAt (highAddr s.regs.c) 2 s)

/-- `PUSH AF` (R153). -/
def execPushAf (s : State) : Host.Outcome State Fault Refusal :=
  .next (pushStk .af s)

/-- `LD SP,HL` (R146). -/
def execLdSpHl (s : State) : Host.Outcome State Fault Refusal :=
  .next (ldSpFromHl s)

/-- `LD A,(a16)` (R138). -/
def execLdAAtA16 (a16 : Word) (s : State) : Host.Outcome State Fault Refusal :=
  .next (loadAAt a16 4 s)

end Sys2Proof.Machine
end

