-- ==== Sys2Proof/Machine/Rotate.lean ====
section
/-! DEFINITION. Rotate, shift and bit instructions (43_rotate_shift_bit.md): the shared forms, then one meaning
per instruction. -/

namespace Sys2Proof.Machine

/-- What an accumulator rotate does to Z (43_rotate_shift_bit.md R230). -/
def accRotateZ (s : State) : Bool :=
  match s.params.accRotateZ with
  | .unchanged => flagZ s
  | .clear => false

/-- `RLCA`, `RRCA`, `RLA`, `RRA` (43_rotate_shift_bit.md R231 to R234). -/
def rotateA (k : RotOp) (s : State) : State :=
  let x := rotate8 k s.regs.a (flagC s)
  charge (setFlags (setA s x.1) (accRotateZ s) false false x.2) 1 0

/-- The common form of the CB-prefixed rotates and shifts (43_rotate_shift_bit.md R235). -/
def rotateR8 (k : RotOp) (o : R8) (s : State) : State :=
  let r := readR8 o s
  let x := rotate8 k r.1 (flagC s)
  charge (setFlags (writeR8 o x.1 r.2) (decide (x.1 = 0)) false false x.2) (r8Accesses o 2 4) 0

/-- `BIT b,r8` (43_rotate_shift_bit.md R244): nothing is written back. -/
def bitTestR8 (b : BitVec 3) (o : R8) (s : State) : State :=
  let r := readR8 o s
  charge (setFlags r.2 (!bitOf r.1 b) false true (flagC s)) (r8Accesses o 2 3) 0

/-- `RES b,r8` (43_rotate_shift_bit.md R245). -/
def bitResR8 (b : BitVec 3) (o : R8) (s : State) : State :=
  let r := readR8 o s
  charge (writeR8 o (resBit r.1 b) r.2) (r8Accesses o 2 4) 0

/-- `SET b,r8` (43_rotate_shift_bit.md R246). -/
def bitSetR8 (b : BitVec 3) (o : R8) (s : State) : State :=
  let r := readR8 o s
  charge (writeR8 o (setBit r.1 b) r.2) (r8Accesses o 2 4) 0

/-- The secondary instruction of an opcode byte by its fields (30_encoding.md R102, R112): bits 7 to 6 select the
group, bits 5 to 3 the kind or the bit number, bits 2 to 0 the operand. -/
def secondary (cb : Byte) (s : State) : State :=
  let y := cb.extractLsb' 3 3
  let o := r8OfField (cb.extractLsb' 0 3)
  match (cb.extractLsb' 6 2).toNat with
  | 0 => rotateR8 (rotOfField y) o s
  | 1 => bitTestR8 y o s
  | 2 => bitResR8 y o s
  | _ => bitSetR8 y o s

/-! ### The instructions -/

/-- `RLCA` (R231). -/
def execRlca (s : State) : Host.Outcome State Fault Refusal :=
  .next (rotateA .rlc s)

/-- `RRCA` (R232). -/
def execRrca (s : State) : Host.Outcome State Fault Refusal :=
  .next (rotateA .rrc s)

/-- `RLA` (R233). -/
def execRla (s : State) : Host.Outcome State Fault Refusal :=
  .next (rotateA .rl s)

/-- `RRA` (R234). -/
def execRra (s : State) : Host.Outcome State Fault Refusal :=
  .next (rotateA .rr s)

/-- `RLC B` (R236). -/
def execRlcB (s : State) : Host.Outcome State Fault Refusal :=
  .next (rotateR8 .rlc .b s)

/-- `RLC C` (R236). -/
def execRlcC (s : State) : Host.Outcome State Fault Refusal :=
  .next (rotateR8 .rlc .c s)

/-- `RLC D` (R236). -/
def execRlcD (s : State) : Host.Outcome State Fault Refusal :=
  .next (rotateR8 .rlc .d s)

/-- `RLC E` (R236). -/
def execRlcE (s : State) : Host.Outcome State Fault Refusal :=
  .next (rotateR8 .rlc .e s)

/-- `RLC H` (R236). -/
def execRlcH (s : State) : Host.Outcome State Fault Refusal :=
  .next (rotateR8 .rlc .h s)

/-- `RLC L` (R236). -/
def execRlcL (s : State) : Host.Outcome State Fault Refusal :=
  .next (rotateR8 .rlc .l s)

/-- `RLC (HL)` (R236). -/
def execRlcAtHl (s : State) : Host.Outcome State Fault Refusal :=
  .next (rotateR8 .rlc .atHl s)

/-- `RLC A` (R236). -/
def execRlcA (s : State) : Host.Outcome State Fault Refusal :=
  .next (rotateR8 .rlc .a s)

/-- `RRC B` (R237). -/
def execRrcB (s : State) : Host.Outcome State Fault Refusal :=
  .next (rotateR8 .rrc .b s)

/-- `RRC C` (R237). -/
def execRrcC (s : State) : Host.Outcome State Fault Refusal :=
  .next (rotateR8 .rrc .c s)

/-- `RRC D` (R237). -/
def execRrcD (s : State) : Host.Outcome State Fault Refusal :=
  .next (rotateR8 .rrc .d s)

/-- `RRC E` (R237). -/
def execRrcE (s : State) : Host.Outcome State Fault Refusal :=
  .next (rotateR8 .rrc .e s)

/-- `RRC H` (R237). -/
def execRrcH (s : State) : Host.Outcome State Fault Refusal :=
  .next (rotateR8 .rrc .h s)

/-- `RRC L` (R237). -/
def execRrcL (s : State) : Host.Outcome State Fault Refusal :=
  .next (rotateR8 .rrc .l s)

/-- `RRC (HL)` (R237). -/
def execRrcAtHl (s : State) : Host.Outcome State Fault Refusal :=
  .next (rotateR8 .rrc .atHl s)

/-- `RRC A` (R237). -/
def execRrcA (s : State) : Host.Outcome State Fault Refusal :=
  .next (rotateR8 .rrc .a s)

/-- `RL B` (R238). -/
def execRlB (s : State) : Host.Outcome State Fault Refusal :=
  .next (rotateR8 .rl .b s)

/-- `RL C` (R238). -/
def execRlC (s : State) : Host.Outcome State Fault Refusal :=
  .next (rotateR8 .rl .c s)

/-- `RL D` (R238). -/
def execRlD (s : State) : Host.Outcome State Fault Refusal :=
  .next (rotateR8 .rl .d s)

/-- `RL E` (R238). -/
def execRlE (s : State) : Host.Outcome State Fault Refusal :=
  .next (rotateR8 .rl .e s)

/-- `RL H` (R238). -/
def execRlH (s : State) : Host.Outcome State Fault Refusal :=
  .next (rotateR8 .rl .h s)

/-- `RL L` (R238). -/
def execRlL (s : State) : Host.Outcome State Fault Refusal :=
  .next (rotateR8 .rl .l s)

/-- `RL (HL)` (R238). -/
def execRlAtHl (s : State) : Host.Outcome State Fault Refusal :=
  .next (rotateR8 .rl .atHl s)

/-- `RL A` (R238). -/
def execRlA (s : State) : Host.Outcome State Fault Refusal :=
  .next (rotateR8 .rl .a s)

/-- `RR B` (R239). -/
def execRrB (s : State) : Host.Outcome State Fault Refusal :=
  .next (rotateR8 .rr .b s)

/-- `RR C` (R239). -/
def execRrC (s : State) : Host.Outcome State Fault Refusal :=
  .next (rotateR8 .rr .c s)

/-- `RR D` (R239). -/
def execRrD (s : State) : Host.Outcome State Fault Refusal :=
  .next (rotateR8 .rr .d s)

/-- `RR E` (R239). -/
def execRrE (s : State) : Host.Outcome State Fault Refusal :=
  .next (rotateR8 .rr .e s)

/-- `RR H` (R239). -/
def execRrH (s : State) : Host.Outcome State Fault Refusal :=
  .next (rotateR8 .rr .h s)

/-- `RR L` (R239). -/
def execRrL (s : State) : Host.Outcome State Fault Refusal :=
  .next (rotateR8 .rr .l s)

/-- `RR (HL)` (R239). -/
def execRrAtHl (s : State) : Host.Outcome State Fault Refusal :=
  .next (rotateR8 .rr .atHl s)

/-- `RR A` (R239). -/
def execRrA (s : State) : Host.Outcome State Fault Refusal :=
  .next (rotateR8 .rr .a s)

/-- `SLA B` (R240). -/
def execSlaB (s : State) : Host.Outcome State Fault Refusal :=
  .next (rotateR8 .sla .b s)

/-- `SLA C` (R240). -/
def execSlaC (s : State) : Host.Outcome State Fault Refusal :=
  .next (rotateR8 .sla .c s)

/-- `SLA D` (R240). -/
def execSlaD (s : State) : Host.Outcome State Fault Refusal :=
  .next (rotateR8 .sla .d s)

/-- `SLA E` (R240). -/
def execSlaE (s : State) : Host.Outcome State Fault Refusal :=
  .next (rotateR8 .sla .e s)

/-- `SLA H` (R240). -/
def execSlaH (s : State) : Host.Outcome State Fault Refusal :=
  .next (rotateR8 .sla .h s)

/-- `SLA L` (R240). -/
def execSlaL (s : State) : Host.Outcome State Fault Refusal :=
  .next (rotateR8 .sla .l s)

/-- `SLA (HL)` (R240). -/
def execSlaAtHl (s : State) : Host.Outcome State Fault Refusal :=
  .next (rotateR8 .sla .atHl s)

/-- `SLA A` (R240). -/
def execSlaA (s : State) : Host.Outcome State Fault Refusal :=
  .next (rotateR8 .sla .a s)

/-- `SRA B` (R241). -/
def execSraB (s : State) : Host.Outcome State Fault Refusal :=
  .next (rotateR8 .sra .b s)

/-- `SRA C` (R241). -/
def execSraC (s : State) : Host.Outcome State Fault Refusal :=
  .next (rotateR8 .sra .c s)

/-- `SRA D` (R241). -/
def execSraD (s : State) : Host.Outcome State Fault Refusal :=
  .next (rotateR8 .sra .d s)

/-- `SRA E` (R241). -/
def execSraE (s : State) : Host.Outcome State Fault Refusal :=
  .next (rotateR8 .sra .e s)

/-- `SRA H` (R241). -/
def execSraH (s : State) : Host.Outcome State Fault Refusal :=
  .next (rotateR8 .sra .h s)

/-- `SRA L` (R241). -/
def execSraL (s : State) : Host.Outcome State Fault Refusal :=
  .next (rotateR8 .sra .l s)

/-- `SRA (HL)` (R241). -/
def execSraAtHl (s : State) : Host.Outcome State Fault Refusal :=
  .next (rotateR8 .sra .atHl s)

/-- `SRA A` (R241). -/
def execSraA (s : State) : Host.Outcome State Fault Refusal :=
  .next (rotateR8 .sra .a s)

/-- `SWAP B` (R242). -/
def execSwapB (s : State) : Host.Outcome State Fault Refusal :=
  .next (rotateR8 .swap .b s)

/-- `SWAP C` (R242). -/
def execSwapC (s : State) : Host.Outcome State Fault Refusal :=
  .next (rotateR8 .swap .c s)

/-- `SWAP D` (R242). -/
def execSwapD (s : State) : Host.Outcome State Fault Refusal :=
  .next (rotateR8 .swap .d s)

/-- `SWAP E` (R242). -/
def execSwapE (s : State) : Host.Outcome State Fault Refusal :=
  .next (rotateR8 .swap .e s)

/-- `SWAP H` (R242). -/
def execSwapH (s : State) : Host.Outcome State Fault Refusal :=
  .next (rotateR8 .swap .h s)

/-- `SWAP L` (R242). -/
def execSwapL (s : State) : Host.Outcome State Fault Refusal :=
  .next (rotateR8 .swap .l s)

/-- `SWAP (HL)` (R242). -/
def execSwapAtHl (s : State) : Host.Outcome State Fault Refusal :=
  .next (rotateR8 .swap .atHl s)

/-- `SWAP A` (R242). -/
def execSwapA (s : State) : Host.Outcome State Fault Refusal :=
  .next (rotateR8 .swap .a s)

/-- `SRL B` (R243). -/
def execSrlB (s : State) : Host.Outcome State Fault Refusal :=
  .next (rotateR8 .srl .b s)

/-- `SRL C` (R243). -/
def execSrlC (s : State) : Host.Outcome State Fault Refusal :=
  .next (rotateR8 .srl .c s)

/-- `SRL D` (R243). -/
def execSrlD (s : State) : Host.Outcome State Fault Refusal :=
  .next (rotateR8 .srl .d s)

/-- `SRL E` (R243). -/
def execSrlE (s : State) : Host.Outcome State Fault Refusal :=
  .next (rotateR8 .srl .e s)

/-- `SRL H` (R243). -/
def execSrlH (s : State) : Host.Outcome State Fault Refusal :=
  .next (rotateR8 .srl .h s)

/-- `SRL L` (R243). -/
def execSrlL (s : State) : Host.Outcome State Fault Refusal :=
  .next (rotateR8 .srl .l s)

/-- `SRL (HL)` (R243). -/
def execSrlAtHl (s : State) : Host.Outcome State Fault Refusal :=
  .next (rotateR8 .srl .atHl s)

/-- `SRL A` (R243). -/
def execSrlA (s : State) : Host.Outcome State Fault Refusal :=
  .next (rotateR8 .srl .a s)

/-- `BIT 0,B` (R244). -/
def execBit0B (s : State) : Host.Outcome State Fault Refusal :=
  .next (bitTestR8 0 .b s)

/-- `BIT 0,C` (R244). -/
def execBit0C (s : State) : Host.Outcome State Fault Refusal :=
  .next (bitTestR8 0 .c s)

/-- `BIT 0,D` (R244). -/
def execBit0D (s : State) : Host.Outcome State Fault Refusal :=
  .next (bitTestR8 0 .d s)

/-- `BIT 0,E` (R244). -/
def execBit0E (s : State) : Host.Outcome State Fault Refusal :=
  .next (bitTestR8 0 .e s)

/-- `BIT 0,H` (R244). -/
def execBit0H (s : State) : Host.Outcome State Fault Refusal :=
  .next (bitTestR8 0 .h s)

/-- `BIT 0,L` (R244). -/
def execBit0L (s : State) : Host.Outcome State Fault Refusal :=
  .next (bitTestR8 0 .l s)

/-- `BIT 0,(HL)` (R244). -/
def execBit0AtHl (s : State) : Host.Outcome State Fault Refusal :=
  .next (bitTestR8 0 .atHl s)

/-- `BIT 0,A` (R244). -/
def execBit0A (s : State) : Host.Outcome State Fault Refusal :=
  .next (bitTestR8 0 .a s)

/-- `BIT 1,B` (R244). -/
def execBit1B (s : State) : Host.Outcome State Fault Refusal :=
  .next (bitTestR8 1 .b s)

/-- `BIT 1,C` (R244). -/
def execBit1C (s : State) : Host.Outcome State Fault Refusal :=
  .next (bitTestR8 1 .c s)

/-- `BIT 1,D` (R244). -/
def execBit1D (s : State) : Host.Outcome State Fault Refusal :=
  .next (bitTestR8 1 .d s)

/-- `BIT 1,E` (R244). -/
def execBit1E (s : State) : Host.Outcome State Fault Refusal :=
  .next (bitTestR8 1 .e s)

/-- `BIT 1,H` (R244). -/
def execBit1H (s : State) : Host.Outcome State Fault Refusal :=
  .next (bitTestR8 1 .h s)

/-- `BIT 1,L` (R244). -/
def execBit1L (s : State) : Host.Outcome State Fault Refusal :=
  .next (bitTestR8 1 .l s)

/-- `BIT 1,(HL)` (R244). -/
def execBit1AtHl (s : State) : Host.Outcome State Fault Refusal :=
  .next (bitTestR8 1 .atHl s)

/-- `BIT 1,A` (R244). -/
def execBit1A (s : State) : Host.Outcome State Fault Refusal :=
  .next (bitTestR8 1 .a s)

/-- `BIT 2,B` (R244). -/
def execBit2B (s : State) : Host.Outcome State Fault Refusal :=
  .next (bitTestR8 2 .b s)

/-- `BIT 2,C` (R244). -/
def execBit2C (s : State) : Host.Outcome State Fault Refusal :=
  .next (bitTestR8 2 .c s)

/-- `BIT 2,D` (R244). -/
def execBit2D (s : State) : Host.Outcome State Fault Refusal :=
  .next (bitTestR8 2 .d s)

/-- `BIT 2,E` (R244). -/
def execBit2E (s : State) : Host.Outcome State Fault Refusal :=
  .next (bitTestR8 2 .e s)

/-- `BIT 2,H` (R244). -/
def execBit2H (s : State) : Host.Outcome State Fault Refusal :=
  .next (bitTestR8 2 .h s)

/-- `BIT 2,L` (R244). -/
def execBit2L (s : State) : Host.Outcome State Fault Refusal :=
  .next (bitTestR8 2 .l s)

/-- `BIT 2,(HL)` (R244). -/
def execBit2AtHl (s : State) : Host.Outcome State Fault Refusal :=
  .next (bitTestR8 2 .atHl s)

/-- `BIT 2,A` (R244). -/
def execBit2A (s : State) : Host.Outcome State Fault Refusal :=
  .next (bitTestR8 2 .a s)

/-- `BIT 3,B` (R244). -/
def execBit3B (s : State) : Host.Outcome State Fault Refusal :=
  .next (bitTestR8 3 .b s)

/-- `BIT 3,C` (R244). -/
def execBit3C (s : State) : Host.Outcome State Fault Refusal :=
  .next (bitTestR8 3 .c s)

/-- `BIT 3,D` (R244). -/
def execBit3D (s : State) : Host.Outcome State Fault Refusal :=
  .next (bitTestR8 3 .d s)

/-- `BIT 3,E` (R244). -/
def execBit3E (s : State) : Host.Outcome State Fault Refusal :=
  .next (bitTestR8 3 .e s)

/-- `BIT 3,H` (R244). -/
def execBit3H (s : State) : Host.Outcome State Fault Refusal :=
  .next (bitTestR8 3 .h s)

/-- `BIT 3,L` (R244). -/
def execBit3L (s : State) : Host.Outcome State Fault Refusal :=
  .next (bitTestR8 3 .l s)

/-- `BIT 3,(HL)` (R244). -/
def execBit3AtHl (s : State) : Host.Outcome State Fault Refusal :=
  .next (bitTestR8 3 .atHl s)

/-- `BIT 3,A` (R244). -/
def execBit3A (s : State) : Host.Outcome State Fault Refusal :=
  .next (bitTestR8 3 .a s)

/-- `BIT 4,B` (R244). -/
def execBit4B (s : State) : Host.Outcome State Fault Refusal :=
  .next (bitTestR8 4 .b s)

/-- `BIT 4,C` (R244). -/
def execBit4C (s : State) : Host.Outcome State Fault Refusal :=
  .next (bitTestR8 4 .c s)

/-- `BIT 4,D` (R244). -/
def execBit4D (s : State) : Host.Outcome State Fault Refusal :=
  .next (bitTestR8 4 .d s)

/-- `BIT 4,E` (R244). -/
def execBit4E (s : State) : Host.Outcome State Fault Refusal :=
  .next (bitTestR8 4 .e s)

/-- `BIT 4,H` (R244). -/
def execBit4H (s : State) : Host.Outcome State Fault Refusal :=
  .next (bitTestR8 4 .h s)

/-- `BIT 4,L` (R244). -/
def execBit4L (s : State) : Host.Outcome State Fault Refusal :=
  .next (bitTestR8 4 .l s)

/-- `BIT 4,(HL)` (R244). -/
def execBit4AtHl (s : State) : Host.Outcome State Fault Refusal :=
  .next (bitTestR8 4 .atHl s)

/-- `BIT 4,A` (R244). -/
def execBit4A (s : State) : Host.Outcome State Fault Refusal :=
  .next (bitTestR8 4 .a s)

/-- `BIT 5,B` (R244). -/
def execBit5B (s : State) : Host.Outcome State Fault Refusal :=
  .next (bitTestR8 5 .b s)

/-- `BIT 5,C` (R244). -/
def execBit5C (s : State) : Host.Outcome State Fault Refusal :=
  .next (bitTestR8 5 .c s)

/-- `BIT 5,D` (R244). -/
def execBit5D (s : State) : Host.Outcome State Fault Refusal :=
  .next (bitTestR8 5 .d s)

/-- `BIT 5,E` (R244). -/
def execBit5E (s : State) : Host.Outcome State Fault Refusal :=
  .next (bitTestR8 5 .e s)

/-- `BIT 5,H` (R244). -/
def execBit5H (s : State) : Host.Outcome State Fault Refusal :=
  .next (bitTestR8 5 .h s)

/-- `BIT 5,L` (R244). -/
def execBit5L (s : State) : Host.Outcome State Fault Refusal :=
  .next (bitTestR8 5 .l s)

/-- `BIT 5,(HL)` (R244). -/
def execBit5AtHl (s : State) : Host.Outcome State Fault Refusal :=
  .next (bitTestR8 5 .atHl s)

/-- `BIT 5,A` (R244). -/
def execBit5A (s : State) : Host.Outcome State Fault Refusal :=
  .next (bitTestR8 5 .a s)

/-- `BIT 6,B` (R244). -/
def execBit6B (s : State) : Host.Outcome State Fault Refusal :=
  .next (bitTestR8 6 .b s)

/-- `BIT 6,C` (R244). -/
def execBit6C (s : State) : Host.Outcome State Fault Refusal :=
  .next (bitTestR8 6 .c s)

/-- `BIT 6,D` (R244). -/
def execBit6D (s : State) : Host.Outcome State Fault Refusal :=
  .next (bitTestR8 6 .d s)

/-- `BIT 6,E` (R244). -/
def execBit6E (s : State) : Host.Outcome State Fault Refusal :=
  .next (bitTestR8 6 .e s)

/-- `BIT 6,H` (R244). -/
def execBit6H (s : State) : Host.Outcome State Fault Refusal :=
  .next (bitTestR8 6 .h s)

/-- `BIT 6,L` (R244). -/
def execBit6L (s : State) : Host.Outcome State Fault Refusal :=
  .next (bitTestR8 6 .l s)

/-- `BIT 6,(HL)` (R244). -/
def execBit6AtHl (s : State) : Host.Outcome State Fault Refusal :=
  .next (bitTestR8 6 .atHl s)

/-- `BIT 6,A` (R244). -/
def execBit6A (s : State) : Host.Outcome State Fault Refusal :=
  .next (bitTestR8 6 .a s)

/-- `BIT 7,B` (R244). -/
def execBit7B (s : State) : Host.Outcome State Fault Refusal :=
  .next (bitTestR8 7 .b s)

/-- `BIT 7,C` (R244). -/
def execBit7C (s : State) : Host.Outcome State Fault Refusal :=
  .next (bitTestR8 7 .c s)

/-- `BIT 7,D` (R244). -/
def execBit7D (s : State) : Host.Outcome State Fault Refusal :=
  .next (bitTestR8 7 .d s)

/-- `BIT 7,E` (R244). -/
def execBit7E (s : State) : Host.Outcome State Fault Refusal :=
  .next (bitTestR8 7 .e s)

/-- `BIT 7,H` (R244). -/
def execBit7H (s : State) : Host.Outcome State Fault Refusal :=
  .next (bitTestR8 7 .h s)

/-- `BIT 7,L` (R244). -/
def execBit7L (s : State) : Host.Outcome State Fault Refusal :=
  .next (bitTestR8 7 .l s)

/-- `BIT 7,(HL)` (R244). -/
def execBit7AtHl (s : State) : Host.Outcome State Fault Refusal :=
  .next (bitTestR8 7 .atHl s)

/-- `BIT 7,A` (R244). -/
def execBit7A (s : State) : Host.Outcome State Fault Refusal :=
  .next (bitTestR8 7 .a s)

/-- `RES 0,B` (R245). -/
def execRes0B (s : State) : Host.Outcome State Fault Refusal :=
  .next (bitResR8 0 .b s)

/-- `RES 0,C` (R245). -/
def execRes0C (s : State) : Host.Outcome State Fault Refusal :=
  .next (bitResR8 0 .c s)

/-- `RES 0,D` (R245). -/
def execRes0D (s : State) : Host.Outcome State Fault Refusal :=
  .next (bitResR8 0 .d s)

/-- `RES 0,E` (R245). -/
def execRes0E (s : State) : Host.Outcome State Fault Refusal :=
  .next (bitResR8 0 .e s)

/-- `RES 0,H` (R245). -/
def execRes0H (s : State) : Host.Outcome State Fault Refusal :=
  .next (bitResR8 0 .h s)

/-- `RES 0,L` (R245). -/
def execRes0L (s : State) : Host.Outcome State Fault Refusal :=
  .next (bitResR8 0 .l s)

/-- `RES 0,(HL)` (R245). -/
def execRes0AtHl (s : State) : Host.Outcome State Fault Refusal :=
  .next (bitResR8 0 .atHl s)

/-- `RES 0,A` (R245). -/
def execRes0A (s : State) : Host.Outcome State Fault Refusal :=
  .next (bitResR8 0 .a s)

/-- `RES 1,B` (R245). -/
def execRes1B (s : State) : Host.Outcome State Fault Refusal :=
  .next (bitResR8 1 .b s)

/-- `RES 1,C` (R245). -/
def execRes1C (s : State) : Host.Outcome State Fault Refusal :=
  .next (bitResR8 1 .c s)

/-- `RES 1,D` (R245). -/
def execRes1D (s : State) : Host.Outcome State Fault Refusal :=
  .next (bitResR8 1 .d s)

/-- `RES 1,E` (R245). -/
def execRes1E (s : State) : Host.Outcome State Fault Refusal :=
  .next (bitResR8 1 .e s)

/-- `RES 1,H` (R245). -/
def execRes1H (s : State) : Host.Outcome State Fault Refusal :=
  .next (bitResR8 1 .h s)

/-- `RES 1,L` (R245). -/
def execRes1L (s : State) : Host.Outcome State Fault Refusal :=
  .next (bitResR8 1 .l s)

/-- `RES 1,(HL)` (R245). -/
def execRes1AtHl (s : State) : Host.Outcome State Fault Refusal :=
  .next (bitResR8 1 .atHl s)

/-- `RES 1,A` (R245). -/
def execRes1A (s : State) : Host.Outcome State Fault Refusal :=
  .next (bitResR8 1 .a s)

/-- `RES 2,B` (R245). -/
def execRes2B (s : State) : Host.Outcome State Fault Refusal :=
  .next (bitResR8 2 .b s)

/-- `RES 2,C` (R245). -/
def execRes2C (s : State) : Host.Outcome State Fault Refusal :=
  .next (bitResR8 2 .c s)

/-- `RES 2,D` (R245). -/
def execRes2D (s : State) : Host.Outcome State Fault Refusal :=
  .next (bitResR8 2 .d s)

/-- `RES 2,E` (R245). -/
def execRes2E (s : State) : Host.Outcome State Fault Refusal :=
  .next (bitResR8 2 .e s)

/-- `RES 2,H` (R245). -/
def execRes2H (s : State) : Host.Outcome State Fault Refusal :=
  .next (bitResR8 2 .h s)

/-- `RES 2,L` (R245). -/
def execRes2L (s : State) : Host.Outcome State Fault Refusal :=
  .next (bitResR8 2 .l s)

/-- `RES 2,(HL)` (R245). -/
def execRes2AtHl (s : State) : Host.Outcome State Fault Refusal :=
  .next (bitResR8 2 .atHl s)

/-- `RES 2,A` (R245). -/
def execRes2A (s : State) : Host.Outcome State Fault Refusal :=
  .next (bitResR8 2 .a s)

/-- `RES 3,B` (R245). -/
def execRes3B (s : State) : Host.Outcome State Fault Refusal :=
  .next (bitResR8 3 .b s)

/-- `RES 3,C` (R245). -/
def execRes3C (s : State) : Host.Outcome State Fault Refusal :=
  .next (bitResR8 3 .c s)

/-- `RES 3,D` (R245). -/
def execRes3D (s : State) : Host.Outcome State Fault Refusal :=
  .next (bitResR8 3 .d s)

/-- `RES 3,E` (R245). -/
def execRes3E (s : State) : Host.Outcome State Fault Refusal :=
  .next (bitResR8 3 .e s)

/-- `RES 3,H` (R245). -/
def execRes3H (s : State) : Host.Outcome State Fault Refusal :=
  .next (bitResR8 3 .h s)

/-- `RES 3,L` (R245). -/
def execRes3L (s : State) : Host.Outcome State Fault Refusal :=
  .next (bitResR8 3 .l s)

/-- `RES 3,(HL)` (R245). -/
def execRes3AtHl (s : State) : Host.Outcome State Fault Refusal :=
  .next (bitResR8 3 .atHl s)

/-- `RES 3,A` (R245). -/
def execRes3A (s : State) : Host.Outcome State Fault Refusal :=
  .next (bitResR8 3 .a s)

/-- `RES 4,B` (R245). -/
def execRes4B (s : State) : Host.Outcome State Fault Refusal :=
  .next (bitResR8 4 .b s)

/-- `RES 4,C` (R245). -/
def execRes4C (s : State) : Host.Outcome State Fault Refusal :=
  .next (bitResR8 4 .c s)

/-- `RES 4,D` (R245). -/
def execRes4D (s : State) : Host.Outcome State Fault Refusal :=
  .next (bitResR8 4 .d s)

/-- `RES 4,E` (R245). -/
def execRes4E (s : State) : Host.Outcome State Fault Refusal :=
  .next (bitResR8 4 .e s)

/-- `RES 4,H` (R245). -/
def execRes4H (s : State) : Host.Outcome State Fault Refusal :=
  .next (bitResR8 4 .h s)

/-- `RES 4,L` (R245). -/
def execRes4L (s : State) : Host.Outcome State Fault Refusal :=
  .next (bitResR8 4 .l s)

/-- `RES 4,(HL)` (R245). -/
def execRes4AtHl (s : State) : Host.Outcome State Fault Refusal :=
  .next (bitResR8 4 .atHl s)

/-- `RES 4,A` (R245). -/
def execRes4A (s : State) : Host.Outcome State Fault Refusal :=
  .next (bitResR8 4 .a s)

/-- `RES 5,B` (R245). -/
def execRes5B (s : State) : Host.Outcome State Fault Refusal :=
  .next (bitResR8 5 .b s)

/-- `RES 5,C` (R245). -/
def execRes5C (s : State) : Host.Outcome State Fault Refusal :=
  .next (bitResR8 5 .c s)

/-- `RES 5,D` (R245). -/
def execRes5D (s : State) : Host.Outcome State Fault Refusal :=
  .next (bitResR8 5 .d s)

/-- `RES 5,E` (R245). -/
def execRes5E (s : State) : Host.Outcome State Fault Refusal :=
  .next (bitResR8 5 .e s)

/-- `RES 5,H` (R245). -/
def execRes5H (s : State) : Host.Outcome State Fault Refusal :=
  .next (bitResR8 5 .h s)

/-- `RES 5,L` (R245). -/
def execRes5L (s : State) : Host.Outcome State Fault Refusal :=
  .next (bitResR8 5 .l s)

/-- `RES 5,(HL)` (R245). -/
def execRes5AtHl (s : State) : Host.Outcome State Fault Refusal :=
  .next (bitResR8 5 .atHl s)

/-- `RES 5,A` (R245). -/
def execRes5A (s : State) : Host.Outcome State Fault Refusal :=
  .next (bitResR8 5 .a s)

/-- `RES 6,B` (R245). -/
def execRes6B (s : State) : Host.Outcome State Fault Refusal :=
  .next (bitResR8 6 .b s)

/-- `RES 6,C` (R245). -/
def execRes6C (s : State) : Host.Outcome State Fault Refusal :=
  .next (bitResR8 6 .c s)

/-- `RES 6,D` (R245). -/
def execRes6D (s : State) : Host.Outcome State Fault Refusal :=
  .next (bitResR8 6 .d s)

/-- `RES 6,E` (R245). -/
def execRes6E (s : State) : Host.Outcome State Fault Refusal :=
  .next (bitResR8 6 .e s)

/-- `RES 6,H` (R245). -/
def execRes6H (s : State) : Host.Outcome State Fault Refusal :=
  .next (bitResR8 6 .h s)

/-- `RES 6,L` (R245). -/
def execRes6L (s : State) : Host.Outcome State Fault Refusal :=
  .next (bitResR8 6 .l s)

/-- `RES 6,(HL)` (R245). -/
def execRes6AtHl (s : State) : Host.Outcome State Fault Refusal :=
  .next (bitResR8 6 .atHl s)

/-- `RES 6,A` (R245). -/
def execRes6A (s : State) : Host.Outcome State Fault Refusal :=
  .next (bitResR8 6 .a s)

/-- `RES 7,B` (R245). -/
def execRes7B (s : State) : Host.Outcome State Fault Refusal :=
  .next (bitResR8 7 .b s)

/-- `RES 7,C` (R245). -/
def execRes7C (s : State) : Host.Outcome State Fault Refusal :=
  .next (bitResR8 7 .c s)

/-- `RES 7,D` (R245). -/
def execRes7D (s : State) : Host.Outcome State Fault Refusal :=
  .next (bitResR8 7 .d s)

/-- `RES 7,E` (R245). -/
def execRes7E (s : State) : Host.Outcome State Fault Refusal :=
  .next (bitResR8 7 .e s)

/-- `RES 7,H` (R245). -/
def execRes7H (s : State) : Host.Outcome State Fault Refusal :=
  .next (bitResR8 7 .h s)

/-- `RES 7,L` (R245). -/
def execRes7L (s : State) : Host.Outcome State Fault Refusal :=
  .next (bitResR8 7 .l s)

/-- `RES 7,(HL)` (R245). -/
def execRes7AtHl (s : State) : Host.Outcome State Fault Refusal :=
  .next (bitResR8 7 .atHl s)

/-- `RES 7,A` (R245). -/
def execRes7A (s : State) : Host.Outcome State Fault Refusal :=
  .next (bitResR8 7 .a s)

/-- `SET 0,B` (R246). -/
def execSet0B (s : State) : Host.Outcome State Fault Refusal :=
  .next (bitSetR8 0 .b s)

/-- `SET 0,C` (R246). -/
def execSet0C (s : State) : Host.Outcome State Fault Refusal :=
  .next (bitSetR8 0 .c s)

/-- `SET 0,D` (R246). -/
def execSet0D (s : State) : Host.Outcome State Fault Refusal :=
  .next (bitSetR8 0 .d s)

/-- `SET 0,E` (R246). -/
def execSet0E (s : State) : Host.Outcome State Fault Refusal :=
  .next (bitSetR8 0 .e s)

/-- `SET 0,H` (R246). -/
def execSet0H (s : State) : Host.Outcome State Fault Refusal :=
  .next (bitSetR8 0 .h s)

/-- `SET 0,L` (R246). -/
def execSet0L (s : State) : Host.Outcome State Fault Refusal :=
  .next (bitSetR8 0 .l s)

/-- `SET 0,(HL)` (R246). -/
def execSet0AtHl (s : State) : Host.Outcome State Fault Refusal :=
  .next (bitSetR8 0 .atHl s)

/-- `SET 0,A` (R246). -/
def execSet0A (s : State) : Host.Outcome State Fault Refusal :=
  .next (bitSetR8 0 .a s)

/-- `SET 1,B` (R246). -/
def execSet1B (s : State) : Host.Outcome State Fault Refusal :=
  .next (bitSetR8 1 .b s)

/-- `SET 1,C` (R246). -/
def execSet1C (s : State) : Host.Outcome State Fault Refusal :=
  .next (bitSetR8 1 .c s)

/-- `SET 1,D` (R246). -/
def execSet1D (s : State) : Host.Outcome State Fault Refusal :=
  .next (bitSetR8 1 .d s)

/-- `SET 1,E` (R246). -/
def execSet1E (s : State) : Host.Outcome State Fault Refusal :=
  .next (bitSetR8 1 .e s)

/-- `SET 1,H` (R246). -/
def execSet1H (s : State) : Host.Outcome State Fault Refusal :=
  .next (bitSetR8 1 .h s)

/-- `SET 1,L` (R246). -/
def execSet1L (s : State) : Host.Outcome State Fault Refusal :=
  .next (bitSetR8 1 .l s)

/-- `SET 1,(HL)` (R246). -/
def execSet1AtHl (s : State) : Host.Outcome State Fault Refusal :=
  .next (bitSetR8 1 .atHl s)

/-- `SET 1,A` (R246). -/
def execSet1A (s : State) : Host.Outcome State Fault Refusal :=
  .next (bitSetR8 1 .a s)

/-- `SET 2,B` (R246). -/
def execSet2B (s : State) : Host.Outcome State Fault Refusal :=
  .next (bitSetR8 2 .b s)

/-- `SET 2,C` (R246). -/
def execSet2C (s : State) : Host.Outcome State Fault Refusal :=
  .next (bitSetR8 2 .c s)

/-- `SET 2,D` (R246). -/
def execSet2D (s : State) : Host.Outcome State Fault Refusal :=
  .next (bitSetR8 2 .d s)

/-- `SET 2,E` (R246). -/
def execSet2E (s : State) : Host.Outcome State Fault Refusal :=
  .next (bitSetR8 2 .e s)

/-- `SET 2,H` (R246). -/
def execSet2H (s : State) : Host.Outcome State Fault Refusal :=
  .next (bitSetR8 2 .h s)

/-- `SET 2,L` (R246). -/
def execSet2L (s : State) : Host.Outcome State Fault Refusal :=
  .next (bitSetR8 2 .l s)

/-- `SET 2,(HL)` (R246). -/
def execSet2AtHl (s : State) : Host.Outcome State Fault Refusal :=
  .next (bitSetR8 2 .atHl s)

/-- `SET 2,A` (R246). -/
def execSet2A (s : State) : Host.Outcome State Fault Refusal :=
  .next (bitSetR8 2 .a s)

/-- `SET 3,B` (R246). -/
def execSet3B (s : State) : Host.Outcome State Fault Refusal :=
  .next (bitSetR8 3 .b s)

/-- `SET 3,C` (R246). -/
def execSet3C (s : State) : Host.Outcome State Fault Refusal :=
  .next (bitSetR8 3 .c s)

/-- `SET 3,D` (R246). -/
def execSet3D (s : State) : Host.Outcome State Fault Refusal :=
  .next (bitSetR8 3 .d s)

/-- `SET 3,E` (R246). -/
def execSet3E (s : State) : Host.Outcome State Fault Refusal :=
  .next (bitSetR8 3 .e s)

/-- `SET 3,H` (R246). -/
def execSet3H (s : State) : Host.Outcome State Fault Refusal :=
  .next (bitSetR8 3 .h s)

/-- `SET 3,L` (R246). -/
def execSet3L (s : State) : Host.Outcome State Fault Refusal :=
  .next (bitSetR8 3 .l s)

/-- `SET 3,(HL)` (R246). -/
def execSet3AtHl (s : State) : Host.Outcome State Fault Refusal :=
  .next (bitSetR8 3 .atHl s)

/-- `SET 3,A` (R246). -/
def execSet3A (s : State) : Host.Outcome State Fault Refusal :=
  .next (bitSetR8 3 .a s)

/-- `SET 4,B` (R246). -/
def execSet4B (s : State) : Host.Outcome State Fault Refusal :=
  .next (bitSetR8 4 .b s)

/-- `SET 4,C` (R246). -/
def execSet4C (s : State) : Host.Outcome State Fault Refusal :=
  .next (bitSetR8 4 .c s)

/-- `SET 4,D` (R246). -/
def execSet4D (s : State) : Host.Outcome State Fault Refusal :=
  .next (bitSetR8 4 .d s)

/-- `SET 4,E` (R246). -/
def execSet4E (s : State) : Host.Outcome State Fault Refusal :=
  .next (bitSetR8 4 .e s)

/-- `SET 4,H` (R246). -/
def execSet4H (s : State) : Host.Outcome State Fault Refusal :=
  .next (bitSetR8 4 .h s)

/-- `SET 4,L` (R246). -/
def execSet4L (s : State) : Host.Outcome State Fault Refusal :=
  .next (bitSetR8 4 .l s)

/-- `SET 4,(HL)` (R246). -/
def execSet4AtHl (s : State) : Host.Outcome State Fault Refusal :=
  .next (bitSetR8 4 .atHl s)

/-- `SET 4,A` (R246). -/
def execSet4A (s : State) : Host.Outcome State Fault Refusal :=
  .next (bitSetR8 4 .a s)

/-- `SET 5,B` (R246). -/
def execSet5B (s : State) : Host.Outcome State Fault Refusal :=
  .next (bitSetR8 5 .b s)

/-- `SET 5,C` (R246). -/
def execSet5C (s : State) : Host.Outcome State Fault Refusal :=
  .next (bitSetR8 5 .c s)

/-- `SET 5,D` (R246). -/
def execSet5D (s : State) : Host.Outcome State Fault Refusal :=
  .next (bitSetR8 5 .d s)

/-- `SET 5,E` (R246). -/
def execSet5E (s : State) : Host.Outcome State Fault Refusal :=
  .next (bitSetR8 5 .e s)

/-- `SET 5,H` (R246). -/
def execSet5H (s : State) : Host.Outcome State Fault Refusal :=
  .next (bitSetR8 5 .h s)

/-- `SET 5,L` (R246). -/
def execSet5L (s : State) : Host.Outcome State Fault Refusal :=
  .next (bitSetR8 5 .l s)

/-- `SET 5,(HL)` (R246). -/
def execSet5AtHl (s : State) : Host.Outcome State Fault Refusal :=
  .next (bitSetR8 5 .atHl s)

/-- `SET 5,A` (R246). -/
def execSet5A (s : State) : Host.Outcome State Fault Refusal :=
  .next (bitSetR8 5 .a s)

/-- `SET 6,B` (R246). -/
def execSet6B (s : State) : Host.Outcome State Fault Refusal :=
  .next (bitSetR8 6 .b s)

/-- `SET 6,C` (R246). -/
def execSet6C (s : State) : Host.Outcome State Fault Refusal :=
  .next (bitSetR8 6 .c s)

/-- `SET 6,D` (R246). -/
def execSet6D (s : State) : Host.Outcome State Fault Refusal :=
  .next (bitSetR8 6 .d s)

/-- `SET 6,E` (R246). -/
def execSet6E (s : State) : Host.Outcome State Fault Refusal :=
  .next (bitSetR8 6 .e s)

/-- `SET 6,H` (R246). -/
def execSet6H (s : State) : Host.Outcome State Fault Refusal :=
  .next (bitSetR8 6 .h s)

/-- `SET 6,L` (R246). -/
def execSet6L (s : State) : Host.Outcome State Fault Refusal :=
  .next (bitSetR8 6 .l s)

/-- `SET 6,(HL)` (R246). -/
def execSet6AtHl (s : State) : Host.Outcome State Fault Refusal :=
  .next (bitSetR8 6 .atHl s)

/-- `SET 6,A` (R246). -/
def execSet6A (s : State) : Host.Outcome State Fault Refusal :=
  .next (bitSetR8 6 .a s)

/-- `SET 7,B` (R246). -/
def execSet7B (s : State) : Host.Outcome State Fault Refusal :=
  .next (bitSetR8 7 .b s)

/-- `SET 7,C` (R246). -/
def execSet7C (s : State) : Host.Outcome State Fault Refusal :=
  .next (bitSetR8 7 .c s)

/-- `SET 7,D` (R246). -/
def execSet7D (s : State) : Host.Outcome State Fault Refusal :=
  .next (bitSetR8 7 .d s)

/-- `SET 7,E` (R246). -/
def execSet7E (s : State) : Host.Outcome State Fault Refusal :=
  .next (bitSetR8 7 .e s)

/-- `SET 7,H` (R246). -/
def execSet7H (s : State) : Host.Outcome State Fault Refusal :=
  .next (bitSetR8 7 .h s)

/-- `SET 7,L` (R246). -/
def execSet7L (s : State) : Host.Outcome State Fault Refusal :=
  .next (bitSetR8 7 .l s)

/-- `SET 7,(HL)` (R246). -/
def execSet7AtHl (s : State) : Host.Outcome State Fault Refusal :=
  .next (bitSetR8 7 .atHl s)

/-- `SET 7,A` (R246). -/
def execSet7A (s : State) : Host.Outcome State Fault Refusal :=
  .next (bitSetR8 7 .a s)

end Sys2Proof.Machine
end

