-- ==== Sys2Proof/Machine/System.lean ====
section
/-! DEFINITION. System and control instructions (45_system.md): the shared forms, then one meaning per
instruction. -/

namespace Sys2Proof.Machine

/-- `NOP` (45_system.md R300). -/
def noOperation (s : State) : State := charge s 1 0

/-- `HALT` (45_system.md R301), IME as it stands before the EI delay of this step completes. -/
def haltEngine (s : State) : State :=
  if s.engine.ime then charge { s with engine := { s.engine with halted := true } } 1 0
  else if pendingMask s = 0 then charge { s with engine := { s.engine with halted := true } } 1 0
  else if s.params.haltBug then charge { s with engine := { s.engine with haltBug := true } } 1 0
  else charge s 1 0

/-- `DI` (45_system.md R304). -/
def disableInterrupts (s : State) : State :=
  charge { s with engine := { s.engine with ime := false, imeScheduled := false } } 1 0

/-- `EI` (45_system.md R305): the delayed effect is the sequencer's. -/
def enableInterrupts (s : State) : State :=
  charge { s with engine := { s.engine with imeScheduled := true } } 1 0

/-- `PREFIX CB` (45_system.md R306): execute the secondary instruction, whose cost includes the prefix fetch. -/
def prefixCb (cb : Byte) (s : State) : State := secondary cb s

/-- An illegal opcode (45_system.md R307): lock the engine, recording the byte and its address. -/
def illegalOpcode (op : Byte) (s : State) : State :=
  charge (raiseLock s .illegalOpcode op s.opAddr) 1 0

/-! ### The instructions -/

/-- `NOP` (R300). -/
def execNop (s : State) : Host.Outcome State Fault Refusal :=
  .next (noOperation s)

/-- `STOP` (R303). -/
def execStop (_ignored : Byte) (s : State) : Host.Outcome State Fault Refusal :=
  .refused (.stopUnmodelled s.opAddr)

/-- `HALT` (R301). -/
def execHalt (s : State) : Host.Outcome State Fault Refusal :=
  .next (haltEngine s)

/-- `PREFIX CB` (R306). -/
def execPrefixCb (cb : Byte) (s : State) : Host.Outcome State Fault Refusal :=
  .next (prefixCb cb s)

/-- `Illegal opcode 0xD3` (R307). -/
def execIllegalD3 (s : State) : Host.Outcome State Fault Refusal :=
  .next (illegalOpcode 0xD3 s)

/-- `Illegal opcode 0xDB` (R307). -/
def execIllegalDB (s : State) : Host.Outcome State Fault Refusal :=
  .next (illegalOpcode 0xDB s)

/-- `Illegal opcode 0xDD` (R307). -/
def execIllegalDD (s : State) : Host.Outcome State Fault Refusal :=
  .next (illegalOpcode 0xDD s)

/-- `Illegal opcode 0xE3` (R307). -/
def execIllegalE3 (s : State) : Host.Outcome State Fault Refusal :=
  .next (illegalOpcode 0xE3 s)

/-- `Illegal opcode 0xE4` (R307). -/
def execIllegalE4 (s : State) : Host.Outcome State Fault Refusal :=
  .next (illegalOpcode 0xE4 s)

/-- `Illegal opcode 0xEB` (R307). -/
def execIllegalEB (s : State) : Host.Outcome State Fault Refusal :=
  .next (illegalOpcode 0xEB s)

/-- `Illegal opcode 0xEC` (R307). -/
def execIllegalEC (s : State) : Host.Outcome State Fault Refusal :=
  .next (illegalOpcode 0xEC s)

/-- `Illegal opcode 0xED` (R307). -/
def execIllegalED (s : State) : Host.Outcome State Fault Refusal :=
  .next (illegalOpcode 0xED s)

/-- `DI` (R304). -/
def execDi (s : State) : Host.Outcome State Fault Refusal :=
  .next (disableInterrupts s)

/-- `Illegal opcode 0xF4` (R307). -/
def execIllegalF4 (s : State) : Host.Outcome State Fault Refusal :=
  .next (illegalOpcode 0xF4 s)

/-- `EI` (R305). -/
def execEi (s : State) : Host.Outcome State Fault Refusal :=
  .next (enableInterrupts s)

/-- `Illegal opcode 0xFC` (R307). -/
def execIllegalFC (s : State) : Host.Outcome State Fault Refusal :=
  .next (illegalOpcode 0xFC s)

/-- `Illegal opcode 0xFD` (R307). -/
def execIllegalFD (s : State) : Host.Outcome State Fault Refusal :=
  .next (illegalOpcode 0xFD s)

end Sys2Proof.Machine
end

