-- ==== Sys2Proof/Machine/Sequencer.lean ====
section
/-! DEFINITION. Fetch, the execution of one instruction (60_exceptions.md R351), the timer (R340 to R342), the
collaborators' advances (R362 to R366) and the step sequencer (R350). -/

namespace Sys2Proof.Machine

/-! ### Fetch -/

/-- `Fetch8()` (00_scope.md R10): the byte at PC, PC then one further. -/
def fetch8 (s : State) : Byte × State :=
  let r := readByte s s.regs.pc
  (r.1, setPc r.2 (s.regs.pc + 1))

/-- `FetchOpcode()` (60_exceptions.md R351): the byte at PC, its address kept; PC goes one further unless the
halt bug is pending, which ends. -/
def fetchOpcode (s : State) : Byte × State :=
  let r := readByte s s.regs.pc
  let next := if s.engine.haltBug then s.regs.pc else s.regs.pc + 1
  let s1 := setPc r.2 next
  (r.1, { s1 with opAddr := s.regs.pc, engine := { s1.engine with haltBug := false } })

/-- `n` bytes by `Fetch8()`, in address order (30_encoding.md R106). -/
def fetchMore : Nat → State → List Byte × State
  | 0, s => ([], s)
  | n + 1, s =>
    let r := fetch8 s
    let q := fetchMore n r.2
    (r.1 :: q.1, q.2)

/-- The bytes of the instruction at PC and the state after their fetch (60_exceptions.md R351, 30_encoding.md
R116): the opcode, then as many bytes as its length asks for. -/
def fetchInstr (s : State) : List Byte × State :=
  let r := fetchOpcode s
  let q := fetchMore (instrLength r.1 - 1) r.2
  (r.1 :: q.1, q.2)

/-! ### One instruction -/

/-- The EI delay (45_system.md R305, 60_exceptions.md R351): if an EI was pending when the step began and still
is, IME becomes 1 and the pending EI ends. An illegal opcode returns before this point (R351), so a locked
engine keeps both as they are: log entry 25. -/
def applyEiDelay (wasScheduled : Bool) (s : State) : State :=
  if wasScheduled && s.engine.imeScheduled && !s.engine.locked then
    { s with engine := { s.engine with ime := true, imeScheduled := false } }
  else s

/-- `executeOne()` (60_exceptions.md R351). The decoder never refuses the bytes `fetchInstr` gives; the dead
branch is R69's. -/
def executeOne (s : State) : Host.Outcome State Fault Refusal :=
  let f := fetchInstr s
  match decode f.1 with
  | .error _ => .fault .invariantViolation
  | .ok (i, _) =>
    match exec i f.2 with
    | .next t => .next (applyEiDelay s.engine.imeScheduled t)
    | .fault r => .fault r
    | .refused r => .refused r

/-! ### The timer -/

/-- `period(sel)` in T-cycles (60_exceptions.md R342). -/
def timerPeriod (tac : BitVec 3) : Nat :=
  match (tac.extractLsb' 0 2).toNat with
  | 0 => 1024
  | 1 => 16
  | 2 => 64
  | _ => 256

/-- TAC[2], the enable bit (10_state.md R40). -/
def timerEnabled (tac : BitVec 3) : Bool := tac.getLsbD 2

/-- One pass of the loop of 60_exceptions.md R341: drain one period, then count TIMA, which on overflow reloads
from TMA and requests the Timer interrupt. The pair is the timer and IF. -/
def timerTick (p : Nat) (x : Timer × BitVec 5) : Timer × BitVec 5 :=
  if x.1.tima = 0xFF then
    ({ x.1 with acc := x.1.acc - p, tima := x.1.tma }, x.2 ||| 0b00100)
  else ({ x.1 with acc := x.1.acc - p, tima := x.1.tima + 1 }, x.2)

/-- The loop `while timerAcc >= p` of 60_exceptions.md R341, at most `fuel` passes. -/
def timerLoop (p : Nat) : Nat → Timer × BitVec 5 → Timer × BitVec 5
  | 0, x => x
  | fuel + 1, x => if p ≤ x.1.acc then timerLoop p fuel (timerTick p x) else x

/-- `timerAdvance(n)` (60_exceptions.md R340, R341). The loop makes `acc / p` passes: log entry 23. -/
def timerAdvance (n : Nat) (s : State) : State :=
  let t1 : Timer := { s.timer with sysCounter := s.timer.sysCounter + BitVec.ofNat 16 n }
  if timerEnabled t1.tac then
    let t2 : Timer := { t1 with acc := t1.acc + n }
    let p := timerPeriod t2.tac
    let x := timerLoop p (t2.acc / p) (t2, s.irq.ifl)
    { s with timer := x.1, irq := { s.irq with ifl := x.2 } }
  else { s with timer := t1 }

/-! ### The collaborators and the host -/

/-- The moves of the coming step; with none left, the quiet default of 60_exceptions.md R364. -/
def quietInput : StepInput where
  joypad := false
  serial := false
  dmaReads := []
  dmaOam := []
  dmaRequests := 0
  videoMode := none
  vblank := false
  stat := false

/-- The moves of the coming step. -/
def currentInput (s : State) : StepInput := s.collab.inputs.headD quietInput

/-- The host events between steps (60_exceptions.md R366): the joypad may request bit 4, the serial unit bit 3.
Log entry 11. -/
def hostEvents (x : StepInput) (s : State) : State :=
  requestInterrupts s
    ((if x.joypad then 0b10000 else 0) ||| (if x.serial then 0b01000 else 0))

/-- The bytes the DMA writes into OAM, not through the contention check (60_exceptions.md R362). -/
def dmaWriteOam : List (Fin 160 × Byte) → List Host.Cell → List Host.Cell
  | [], m => m
  | (i, v) :: r, m => dmaWriteOam r (Memory.write m (0xFE00 + i.val) v)

/-- Reads through the router, whose bytes go to the reader (60_exceptions.md R362). -/
def readEach : List Addr → State → State
  | [], s => s
  | a :: r, s => readEach r (readByte s a).2

/-- The sources a collaborator may request: all but the Timer, bit 2, which the timer alone requests (10_state.md R35).
DEDUCED: R363 of 60_exceptions.md names 0 to 4 and R362 no bit. Log entry 27. -/
def collaboratorSources : BitVec 5 := 0b11011

/-- `DMA.advance` within its footprint (60_exceptions.md R362, R363): it reads through the router, writes OAM, and
requests sources other than the Timer (DEDUCED: log entry 27). -/
def dmaAdvance (x : StepInput) (s : State) : State :=
  let s1 := readEach x.dmaReads s
  requestInterrupts { s1 with mem := dmaWriteOam x.dmaOam s1.mem } (x.dmaRequests &&& collaboratorSources)

/-- `Video.advance` within its footprint (60_exceptions.md R364): the access mode, VBlank (bit 0), STAT (bit 1). -/
def videoAdvance (x : StepInput) (s : State) : State :=
  requestInterrupts
    { s with collab := { s.collab with videoMode := x.videoMode.getD s.collab.videoMode } }
    ((if x.vblank then 0b00001 else 0) ||| (if x.stat then 0b00010 else 0))

/-- `Audio.advance` changes no core state (60_exceptions.md R365). -/
def audioAdvance (s : State) : State := s

/-- Items 3 to 7 of the step (60_exceptions.md R350): DMA, video, timer, audio, the running total; the moves of
this step are used up. -/
def advanceAll (x : StepInput) (s : State) : State :=
  let s1 := audioAdvance (timerAdvance s.cost (videoAdvance x (dmaAdvance x s)))
  { s1 with
    totalCycles := s1.totalCycles + s1.cost
    collab := { s1.collab with inputs := s1.collab.inputs.tail } }

/-! ### The step -/

/-- What the CPU part of a step does (60_exceptions.md R350). -/
inductive CpuPart where
  | locked
  | service
  | halted
  | execute
  deriving DecidableEq, Repr

/-- The choice at the start of a step (60_exceptions.md R350). -/
def cpuPart (s : State) : CpuPart :=
  if s.engine.locked then .locked
  else if s.engine.ime && decide (pendingMask s ≠ 0) then .service
  else if s.engine.halted && decide (pendingMask s = 0) then .halted
  else .execute

/-- The CPU part of a step (60_exceptions.md R350, items 1 and 2). DEDUCED: the 4 T of a locked and of a halted step are one
machine cycle, log entry 7. -/
def runCpu (s : State) : Host.Outcome State Fault Refusal :=
  match cpuPart s with
  | .locked => .next (charge s 0 1)
  | .service => .next (serviceInterrupt s)
  | .halted => .next (charge s 0 1)
  | .execute => executeOne { s with engine := { s.engine with halted := false } }

/-- `step()` (60_exceptions.md R350). A refused state has no successor (10_state.md R33). -/
def runStep (s : State) : Host.Outcome State Fault Refusal :=
  if s.engine.refused then .refused .alreadyRefused
  else
    match runCpu (hostEvents (currentInput s) s) with
    | .next t => .next (advanceAll (currentInput s) t)
    | .fault r => .fault r
    | .refused r => .refused r

/-! ### Placing an instruction to fetch -/

/-- An address whose byte can be set to what a fetch is to read. -/
def placeable (s : State) (a : Addr) : Bool :=
  match regionOf a with
  | .bootWindow => !s.bootDisabled || decide (s.collab.cart = .romOnly)
  | .cartRom => decide (s.collab.cart = .romOnly)
  | .vram | .wram | .echo | .oam | .hram => true
  | .cartRam | .unusable | .io | .ieReg => false

/-- Make a read of a placeable address give `v`: in the overlay image while it is mapped, else in `mem`. -/
def placeByte (s : State) (a : Addr) (v : Byte) : State :=
  if regionOf a = .bootWindow ∧ s.bootDisabled = false then
    { s with bootRom := Memory.write s.bootRom a.toNat v }
  else storeCell s (cellOf a) v

/-- Place bytes at rising addresses. -/
def placeBytes : State → Addr → List Byte → State
  | s, _, [] => s
  | s, a, v :: vs => placeBytes (placeByte s a v) (a + 1) vs

/-- Let the next step execute: an engine that would serve, wait or stay locked is set to fetch at PC, and the
video unit lets the fetch through. A state that is already so keeps every field. Log entry 18. -/
def readyToFetch (s : State) : State :=
  let pending := decide (pendingMask (hostEvents (currentInput s) s) ≠ 0)
  let blocked : Bool :=
    (regionOf s.regs.pc = .vram && vramContended s.collab.videoMode)
      || (regionOf s.regs.pc = .oam && oamContended s.collab.videoMode)
  { s with
    engine :=
      { s.engine with
        ime := s.engine.ime && !pending
        halted := false
        haltBug := false
        locked := false
        refused := false }
    collab := { s.collab with videoMode := if blocked then .mode0 else s.collab.videoMode } }

/-- Where an instruction can be placed: at PC if all three bytes there can be set, else in WRAM. -/
def placeAddr (s : State) : Addr :=
  if placeable s s.regs.pc && placeable s (s.regs.pc + 1) && placeable s (s.regs.pc + 2) then s.regs.pc
  else 0xC000

/-- The state with an instruction, numbered as the opcode table numbers it, placed where the next step fetches. -/
def placeFetchWord (s : State) (nbits w : Nat) : State :=
  let s1 := setPc s (placeAddr s)
  placeBytes (readyToFetch s1) s1.regs.pc (tableBytes nbits w)

end Sys2Proof.Machine
end

