-- ==== Sys2Proof/Machine/Step.lean ====
section
/-! DEFINITION. The machine's one step, and the state whose next step runs a given instruction. -/

namespace Sys2Proof.Machine

/-- One call of the sequencer (60_exceptions.md R350). -/
def step (s : State) : Host.Outcome State Fault Refusal := runStep s

/-- `s` with an instruction placed where the next step fetches (log entry 18). -/
def State.withFetchWord (s : State) (nbits w : Nat) : State := placeFetchWord s nbits w

end Sys2Proof.Machine
end

