-- ==== Sys2Proof/Machine/Forms.lean ====
section
/-! DEFINITION. The form of an instruction: its rule of the 4N files with the operands its opcode fields select
(30_encoding.md R102 to R107), what a form may write (10_state.md R25, R27), and the data accesses and internal cycles
of its cost (70_reset_and_hazards.md R397). Statements range over forms; the machine itself never looks at them. -/

namespace Sys2Proof

/-- One constructor per instruction rule, with the operands that rule names. -/
inductive Form where
  /-- R130. -/
  | ld (dst src : R8)
  /-- R131. -/
  | ldImm (dst : R8) (v : Byte)
  /-- R132, R134, R135. -/
  | ldA (m : R16Mem)
  /-- R133, R136, R137. -/
  | stA (m : R16Mem)
  /-- R138. -/
  | ldAbs (a : Addr)
  /-- R139. -/
  | stAbs (a : Addr)
  /-- R140. -/
  | ldh (n : Byte)
  /-- R141. -/
  | sth (n : Byte)
  /-- R142. -/
  | ldC
  /-- R143. -/
  | stC
  /-- R144. -/
  | ld16 (r : R16) (v : Word)
  /-- R145. -/
  | stSp (a : Addr)
  /-- R146. -/
  | ldSpHl
  /-- R152. -/
  | pop (r : R16Stk)
  /-- R153. -/
  | push (r : R16Stk)
  /-- R173 to R187. -/
  | alu (op : AluOp) (src : R8)
  /-- R174 to R188. -/
  | aluImm (op : AluOp) (v : Byte)
  /-- R190. -/
  | inc8 (dst : R8)
  /-- R191. -/
  | dec8 (dst : R8)
  /-- R192. -/
  | daa
  /-- R193. -/
  | cpl
  /-- R194. -/
  | scf
  /-- R195. -/
  | ccf
  /-- R211. -/
  | inc16 (r : R16)
  /-- R212. -/
  | dec16 (r : R16)
  /-- R214. -/
  | addHl (r : R16)
  /-- R216. -/
  | addSp (e : Byte)
  /-- R217. -/
  | ldHlSp (e : Byte)
  /-- R231 to R234. -/
  | rotA (k : RotOp)
  /-- R236 to R243. -/
  | rot (k : RotOp) (o : R8)
  /-- R244. -/
  | bit (bit : BitVec 3) (o : R8)
  /-- R245. -/
  | res (b : BitVec 3) (s : R8)
  /-- R246. -/
  | set (b : BitVec 3) (s : R8)
  /-- R271. -/
  | jp (a : Addr)
  /-- R272. -/
  | jpCc (cc : Cc) (a : Addr)
  /-- R273. -/
  | jpHl
  /-- R274. -/
  | jr (e : Byte)
  /-- R275. -/
  | jrCc (cc : Cc) (e : Byte)
  /-- R276. -/
  | call (a : Addr)
  /-- R277. -/
  | callCc (cc : Cc) (a : Addr)
  /-- R278. -/
  | ret
  /-- R279. -/
  | retCc (cc : Cc)
  /-- R280. -/
  | reti
  /-- R281. -/
  | rst (t : BitVec 3)
  /-- R300. -/
  | nop
  /-- R301. -/
  | halt
  /-- R303. -/
  | stop (ignored : Byte)
  /-- R304. -/
  | di
  /-- R305. -/
  | ei
  /-- R306. -/
  | prefixCb (cb : Byte)
  /-- R307. -/
  | illegal (op : Byte)
  deriving DecidableEq, Repr

/-- The form of each row of spec/opcode_table.json. -/
def Instr.form : Instr → Form
  | .nop => .nop
  | .ldBcD16 d16 => .ld16 .bc d16
  | .ldAtBcA => .stA .bc
  | .incBc => .inc16 .bc
  | .incB => .inc8 .b
  | .decB => .dec8 .b
  | .ldBD8 d8 => .ldImm .b d8
  | .rlca => .rotA .rlc
  | .ldAtA16Sp a16 => .stSp a16
  | .addHlBc => .addHl .bc
  | .ldAAtBc => .ldA .bc
  | .decBc => .dec16 .bc
  | .incC => .inc8 .c
  | .decC => .dec8 .c
  | .ldCD8 d8 => .ldImm .c d8
  | .rrca => .rotA .rrc
  | .stop ignored => .stop ignored
  | .ldDeD16 d16 => .ld16 .de d16
  | .ldAtDeA => .stA .de
  | .incDe => .inc16 .de
  | .incD => .inc8 .d
  | .decD => .dec8 .d
  | .ldDD8 d8 => .ldImm .d d8
  | .rla => .rotA .rl
  | .jrE8 e8 => .jr e8
  | .addHlDe => .addHl .de
  | .ldAAtDe => .ldA .de
  | .decDe => .dec16 .de
  | .incE => .inc8 .e
  | .decE => .dec8 .e
  | .ldED8 d8 => .ldImm .e d8
  | .rra => .rotA .rr
  | .jrNzE8 e8 => .jrCc .nz e8
  | .ldHlD16 d16 => .ld16 .hl d16
  | .ldAtHlIncA => .stA .hlInc
  | .incHl => .inc16 .hl
  | .incH => .inc8 .h
  | .decH => .dec8 .h
  | .ldHD8 d8 => .ldImm .h d8
  | .daa => .daa
  | .jrZE8 e8 => .jrCc .z e8
  | .addHlHl => .addHl .hl
  | .ldAAtHlInc => .ldA .hlInc
  | .decHl => .dec16 .hl
  | .incL => .inc8 .l
  | .decL => .dec8 .l
  | .ldLD8 d8 => .ldImm .l d8
  | .cpl => .cpl
  | .jrNcE8 e8 => .jrCc .nc e8
  | .ldSpD16 d16 => .ld16 .sp d16
  | .ldAtHlDecA => .stA .hlDec
  | .incSp => .inc16 .sp
  | .incAtHl => .inc8 .atHl
  | .decAtHl => .dec8 .atHl
  | .ldAtHlD8 d8 => .ldImm .atHl d8
  | .scf => .scf
  | .jrCE8 e8 => .jrCc .c e8
  | .addHlSp => .addHl .sp
  | .ldAAtHlDec => .ldA .hlDec
  | .decSp => .dec16 .sp
  | .incA => .inc8 .a
  | .decA => .dec8 .a
  | .ldAD8 d8 => .ldImm .a d8
  | .ccf => .ccf
  | .ldBB => .ld .b .b
  | .ldBC => .ld .b .c
  | .ldBD => .ld .b .d
  | .ldBE => .ld .b .e
  | .ldBH => .ld .b .h
  | .ldBL => .ld .b .l
  | .ldBAtHl => .ld .b .atHl
  | .ldBA => .ld .b .a
  | .ldCB => .ld .c .b
  | .ldCC => .ld .c .c
  | .ldCD => .ld .c .d
  | .ldCE => .ld .c .e
  | .ldCH => .ld .c .h
  | .ldCL => .ld .c .l
  | .ldCAtHl => .ld .c .atHl
  | .ldCA => .ld .c .a
  | .ldDB => .ld .d .b
  | .ldDC => .ld .d .c
  | .ldDD => .ld .d .d
  | .ldDE => .ld .d .e
  | .ldDH => .ld .d .h
  | .ldDL => .ld .d .l
  | .ldDAtHl => .ld .d .atHl
  | .ldDA => .ld .d .a
  | .ldEB => .ld .e .b
  | .ldEC => .ld .e .c
  | .ldED => .ld .e .d
  | .ldEE => .ld .e .e
  | .ldEH => .ld .e .h
  | .ldEL => .ld .e .l
  | .ldEAtHl => .ld .e .atHl
  | .ldEA => .ld .e .a
  | .ldHB => .ld .h .b
  | .ldHC => .ld .h .c
  | .ldHD => .ld .h .d
  | .ldHE => .ld .h .e
  | .ldHH => .ld .h .h
  | .ldHL => .ld .h .l
  | .ldHAtHl => .ld .h .atHl
  | .ldHA => .ld .h .a
  | .ldLB => .ld .l .b
  | .ldLC => .ld .l .c
  | .ldLD => .ld .l .d
  | .ldLE => .ld .l .e
  | .ldLH => .ld .l .h
  | .ldLL => .ld .l .l
  | .ldLAtHl => .ld .l .atHl
  | .ldLA => .ld .l .a
  | .ldAtHlB => .ld .atHl .b
  | .ldAtHlC => .ld .atHl .c
  | .ldAtHlD => .ld .atHl .d
  | .ldAtHlE => .ld .atHl .e
  | .ldAtHlH => .ld .atHl .h
  | .ldAtHlL => .ld .atHl .l
  | .halt => .halt
  | .ldAtHlA => .ld .atHl .a
  | .ldAB => .ld .a .b
  | .ldAC => .ld .a .c
  | .ldAD => .ld .a .d
  | .ldAE => .ld .a .e
  | .ldAH => .ld .a .h
  | .ldAL => .ld .a .l
  | .ldAAtHl => .ld .a .atHl
  | .ldAA => .ld .a .a
  | .addAB => .alu .add .b
  | .addAC => .alu .add .c
  | .addAD => .alu .add .d
  | .addAE => .alu .add .e
  | .addAH => .alu .add .h
  | .addAL => .alu .add .l
  | .addAAtHl => .alu .add .atHl
  | .addAA => .alu .add .a
  | .adcAB => .alu .adc .b
  | .adcAC => .alu .adc .c
  | .adcAD => .alu .adc .d
  | .adcAE => .alu .adc .e
  | .adcAH => .alu .adc .h
  | .adcAL => .alu .adc .l
  | .adcAAtHl => .alu .adc .atHl
  | .adcAA => .alu .adc .a
  | .subAB => .alu .sub .b
  | .subAC => .alu .sub .c
  | .subAD => .alu .sub .d
  | .subAE => .alu .sub .e
  | .subAH => .alu .sub .h
  | .subAL => .alu .sub .l
  | .subAAtHl => .alu .sub .atHl
  | .subAA => .alu .sub .a
  | .sbcAB => .alu .sbc .b
  | .sbcAC => .alu .sbc .c
  | .sbcAD => .alu .sbc .d
  | .sbcAE => .alu .sbc .e
  | .sbcAH => .alu .sbc .h
  | .sbcAL => .alu .sbc .l
  | .sbcAAtHl => .alu .sbc .atHl
  | .sbcAA => .alu .sbc .a
  | .andAB => .alu .and .b
  | .andAC => .alu .and .c
  | .andAD => .alu .and .d
  | .andAE => .alu .and .e
  | .andAH => .alu .and .h
  | .andAL => .alu .and .l
  | .andAAtHl => .alu .and .atHl
  | .andAA => .alu .and .a
  | .xorAB => .alu .xor .b
  | .xorAC => .alu .xor .c
  | .xorAD => .alu .xor .d
  | .xorAE => .alu .xor .e
  | .xorAH => .alu .xor .h
  | .xorAL => .alu .xor .l
  | .xorAAtHl => .alu .xor .atHl
  | .xorAA => .alu .xor .a
  | .orAB => .alu .or .b
  | .orAC => .alu .or .c
  | .orAD => .alu .or .d
  | .orAE => .alu .or .e
  | .orAH => .alu .or .h
  | .orAL => .alu .or .l
  | .orAAtHl => .alu .or .atHl
  | .orAA => .alu .or .a
  | .cpAB => .alu .cp .b
  | .cpAC => .alu .cp .c
  | .cpAD => .alu .cp .d
  | .cpAE => .alu .cp .e
  | .cpAH => .alu .cp .h
  | .cpAL => .alu .cp .l
  | .cpAAtHl => .alu .cp .atHl
  | .cpAA => .alu .cp .a
  | .retNz => .retCc .nz
  | .popBc => .pop .bc
  | .jpNzA16 a16 => .jpCc .nz a16
  | .jpA16 a16 => .jp a16
  | .callNzA16 a16 => .callCc .nz a16
  | .pushBc => .push .bc
  | .addAD8 d8 => .aluImm .add d8
  | .rst00 => .rst 0
  | .retZ => .retCc .z
  | .ret => .ret
  | .jpZA16 a16 => .jpCc .z a16
  | .prefixCb cb => .prefixCb cb
  | .callZA16 a16 => .callCc .z a16
  | .callA16 a16 => .call a16
  | .adcAD8 d8 => .aluImm .adc d8
  | .rst08 => .rst 1
  | .retNc => .retCc .nc
  | .popDe => .pop .de
  | .jpNcA16 a16 => .jpCc .nc a16
  | .illegalD3 => .illegal 0xD3
  | .callNcA16 a16 => .callCc .nc a16
  | .pushDe => .push .de
  | .subAD8 d8 => .aluImm .sub d8
  | .rst10 => .rst 2
  | .retC => .retCc .c
  | .reti => .reti
  | .jpCA16 a16 => .jpCc .c a16
  | .illegalDB => .illegal 0xDB
  | .callCA16 a16 => .callCc .c a16
  | .illegalDD => .illegal 0xDD
  | .sbcAD8 d8 => .aluImm .sbc d8
  | .rst18 => .rst 3
  | .ldhAtA8A a8 => .sth a8
  | .popHl => .pop .hl
  | .ldAtCA => .stC
  | .illegalE3 => .illegal 0xE3
  | .illegalE4 => .illegal 0xE4
  | .pushHl => .push .hl
  | .andAD8 d8 => .aluImm .and d8
  | .rst20 => .rst 4
  | .addSpE8 e8 => .addSp e8
  | .jpHl => .jpHl
  | .ldAtA16A a16 => .stAbs a16
  | .illegalEB => .illegal 0xEB
  | .illegalEC => .illegal 0xEC
  | .illegalED => .illegal 0xED
  | .xorAD8 d8 => .aluImm .xor d8
  | .rst28 => .rst 5
  | .ldhAAtA8 a8 => .ldh a8
  | .popAf => .pop .af
  | .ldAAtC => .ldC
  | .di => .di
  | .illegalF4 => .illegal 0xF4
  | .pushAf => .push .af
  | .orAD8 d8 => .aluImm .or d8
  | .rst30 => .rst 6
  | .ldHlSpE8 e8 => .ldHlSp e8
  | .ldSpHl => .ldSpHl
  | .ldAAtA16 a16 => .ldAbs a16
  | .ei => .ei
  | .illegalFC => .illegal 0xFC
  | .illegalFD => .illegal 0xFD
  | .cpAD8 d8 => .aluImm .cp d8
  | .rst38 => .rst 7
  | .rlcB => .rot .rlc .b
  | .rlcC => .rot .rlc .c
  | .rlcD => .rot .rlc .d
  | .rlcE => .rot .rlc .e
  | .rlcH => .rot .rlc .h
  | .rlcL => .rot .rlc .l
  | .rlcAtHl => .rot .rlc .atHl
  | .rlcA => .rot .rlc .a
  | .rrcB => .rot .rrc .b
  | .rrcC => .rot .rrc .c
  | .rrcD => .rot .rrc .d
  | .rrcE => .rot .rrc .e
  | .rrcH => .rot .rrc .h
  | .rrcL => .rot .rrc .l
  | .rrcAtHl => .rot .rrc .atHl
  | .rrcA => .rot .rrc .a
  | .rlB => .rot .rl .b
  | .rlC => .rot .rl .c
  | .rlD => .rot .rl .d
  | .rlE => .rot .rl .e
  | .rlH => .rot .rl .h
  | .rlL => .rot .rl .l
  | .rlAtHl => .rot .rl .atHl
  | .rlA => .rot .rl .a
  | .rrB => .rot .rr .b
  | .rrC => .rot .rr .c
  | .rrD => .rot .rr .d
  | .rrE => .rot .rr .e
  | .rrH => .rot .rr .h
  | .rrL => .rot .rr .l
  | .rrAtHl => .rot .rr .atHl
  | .rrA => .rot .rr .a
  | .slaB => .rot .sla .b
  | .slaC => .rot .sla .c
  | .slaD => .rot .sla .d
  | .slaE => .rot .sla .e
  | .slaH => .rot .sla .h
  | .slaL => .rot .sla .l
  | .slaAtHl => .rot .sla .atHl
  | .slaA => .rot .sla .a
  | .sraB => .rot .sra .b
  | .sraC => .rot .sra .c
  | .sraD => .rot .sra .d
  | .sraE => .rot .sra .e
  | .sraH => .rot .sra .h
  | .sraL => .rot .sra .l
  | .sraAtHl => .rot .sra .atHl
  | .sraA => .rot .sra .a
  | .swapB => .rot .swap .b
  | .swapC => .rot .swap .c
  | .swapD => .rot .swap .d
  | .swapE => .rot .swap .e
  | .swapH => .rot .swap .h
  | .swapL => .rot .swap .l
  | .swapAtHl => .rot .swap .atHl
  | .swapA => .rot .swap .a
  | .srlB => .rot .srl .b
  | .srlC => .rot .srl .c
  | .srlD => .rot .srl .d
  | .srlE => .rot .srl .e
  | .srlH => .rot .srl .h
  | .srlL => .rot .srl .l
  | .srlAtHl => .rot .srl .atHl
  | .srlA => .rot .srl .a
  | .bit0B => .bit 0 .b
  | .bit0C => .bit 0 .c
  | .bit0D => .bit 0 .d
  | .bit0E => .bit 0 .e
  | .bit0H => .bit 0 .h
  | .bit0L => .bit 0 .l
  | .bit0AtHl => .bit 0 .atHl
  | .bit0A => .bit 0 .a
  | .bit1B => .bit 1 .b
  | .bit1C => .bit 1 .c
  | .bit1D => .bit 1 .d
  | .bit1E => .bit 1 .e
  | .bit1H => .bit 1 .h
  | .bit1L => .bit 1 .l
  | .bit1AtHl => .bit 1 .atHl
  | .bit1A => .bit 1 .a
  | .bit2B => .bit 2 .b
  | .bit2C => .bit 2 .c
  | .bit2D => .bit 2 .d
  | .bit2E => .bit 2 .e
  | .bit2H => .bit 2 .h
  | .bit2L => .bit 2 .l
  | .bit2AtHl => .bit 2 .atHl
  | .bit2A => .bit 2 .a
  | .bit3B => .bit 3 .b
  | .bit3C => .bit 3 .c
  | .bit3D => .bit 3 .d
  | .bit3E => .bit 3 .e
  | .bit3H => .bit 3 .h
  | .bit3L => .bit 3 .l
  | .bit3AtHl => .bit 3 .atHl
  | .bit3A => .bit 3 .a
  | .bit4B => .bit 4 .b
  | .bit4C => .bit 4 .c
  | .bit4D => .bit 4 .d
  | .bit4E => .bit 4 .e
  | .bit4H => .bit 4 .h
  | .bit4L => .bit 4 .l
  | .bit4AtHl => .bit 4 .atHl
  | .bit4A => .bit 4 .a
  | .bit5B => .bit 5 .b
  | .bit5C => .bit 5 .c
  | .bit5D => .bit 5 .d
  | .bit5E => .bit 5 .e
  | .bit5H => .bit 5 .h
  | .bit5L => .bit 5 .l
  | .bit5AtHl => .bit 5 .atHl
  | .bit5A => .bit 5 .a
  | .bit6B => .bit 6 .b
  | .bit6C => .bit 6 .c
  | .bit6D => .bit 6 .d
  | .bit6E => .bit 6 .e
  | .bit6H => .bit 6 .h
  | .bit6L => .bit 6 .l
  | .bit6AtHl => .bit 6 .atHl
  | .bit6A => .bit 6 .a
  | .bit7B => .bit 7 .b
  | .bit7C => .bit 7 .c
  | .bit7D => .bit 7 .d
  | .bit7E => .bit 7 .e
  | .bit7H => .bit 7 .h
  | .bit7L => .bit 7 .l
  | .bit7AtHl => .bit 7 .atHl
  | .bit7A => .bit 7 .a
  | .res0B => .res 0 .b
  | .res0C => .res 0 .c
  | .res0D => .res 0 .d
  | .res0E => .res 0 .e
  | .res0H => .res 0 .h
  | .res0L => .res 0 .l
  | .res0AtHl => .res 0 .atHl
  | .res0A => .res 0 .a
  | .res1B => .res 1 .b
  | .res1C => .res 1 .c
  | .res1D => .res 1 .d
  | .res1E => .res 1 .e
  | .res1H => .res 1 .h
  | .res1L => .res 1 .l
  | .res1AtHl => .res 1 .atHl
  | .res1A => .res 1 .a
  | .res2B => .res 2 .b
  | .res2C => .res 2 .c
  | .res2D => .res 2 .d
  | .res2E => .res 2 .e
  | .res2H => .res 2 .h
  | .res2L => .res 2 .l
  | .res2AtHl => .res 2 .atHl
  | .res2A => .res 2 .a
  | .res3B => .res 3 .b
  | .res3C => .res 3 .c
  | .res3D => .res 3 .d
  | .res3E => .res 3 .e
  | .res3H => .res 3 .h
  | .res3L => .res 3 .l
  | .res3AtHl => .res 3 .atHl
  | .res3A => .res 3 .a
  | .res4B => .res 4 .b
  | .res4C => .res 4 .c
  | .res4D => .res 4 .d
  | .res4E => .res 4 .e
  | .res4H => .res 4 .h
  | .res4L => .res 4 .l
  | .res4AtHl => .res 4 .atHl
  | .res4A => .res 4 .a
  | .res5B => .res 5 .b
  | .res5C => .res 5 .c
  | .res5D => .res 5 .d
  | .res5E => .res 5 .e
  | .res5H => .res 5 .h
  | .res5L => .res 5 .l
  | .res5AtHl => .res 5 .atHl
  | .res5A => .res 5 .a
  | .res6B => .res 6 .b
  | .res6C => .res 6 .c
  | .res6D => .res 6 .d
  | .res6E => .res 6 .e
  | .res6H => .res 6 .h
  | .res6L => .res 6 .l
  | .res6AtHl => .res 6 .atHl
  | .res6A => .res 6 .a
  | .res7B => .res 7 .b
  | .res7C => .res 7 .c
  | .res7D => .res 7 .d
  | .res7E => .res 7 .e
  | .res7H => .res 7 .h
  | .res7L => .res 7 .l
  | .res7AtHl => .res 7 .atHl
  | .res7A => .res 7 .a
  | .set0B => .set 0 .b
  | .set0C => .set 0 .c
  | .set0D => .set 0 .d
  | .set0E => .set 0 .e
  | .set0H => .set 0 .h
  | .set0L => .set 0 .l
  | .set0AtHl => .set 0 .atHl
  | .set0A => .set 0 .a
  | .set1B => .set 1 .b
  | .set1C => .set 1 .c
  | .set1D => .set 1 .d
  | .set1E => .set 1 .e
  | .set1H => .set 1 .h
  | .set1L => .set 1 .l
  | .set1AtHl => .set 1 .atHl
  | .set1A => .set 1 .a
  | .set2B => .set 2 .b
  | .set2C => .set 2 .c
  | .set2D => .set 2 .d
  | .set2E => .set 2 .e
  | .set2H => .set 2 .h
  | .set2L => .set 2 .l
  | .set2AtHl => .set 2 .atHl
  | .set2A => .set 2 .a
  | .set3B => .set 3 .b
  | .set3C => .set 3 .c
  | .set3D => .set 3 .d
  | .set3E => .set 3 .e
  | .set3H => .set 3 .h
  | .set3L => .set 3 .l
  | .set3AtHl => .set 3 .atHl
  | .set3A => .set 3 .a
  | .set4B => .set 4 .b
  | .set4C => .set 4 .c
  | .set4D => .set 4 .d
  | .set4E => .set 4 .e
  | .set4H => .set 4 .h
  | .set4L => .set 4 .l
  | .set4AtHl => .set 4 .atHl
  | .set4A => .set 4 .a
  | .set5B => .set 5 .b
  | .set5C => .set 5 .c
  | .set5D => .set 5 .d
  | .set5E => .set 5 .e
  | .set5H => .set 5 .h
  | .set5L => .set 5 .l
  | .set5AtHl => .set 5 .atHl
  | .set5A => .set 5 .a
  | .set6B => .set 6 .b
  | .set6C => .set 6 .c
  | .set6D => .set 6 .d
  | .set6E => .set 6 .e
  | .set6H => .set 6 .h
  | .set6L => .set 6 .l
  | .set6AtHl => .set 6 .atHl
  | .set6A => .set 6 .a
  | .set7B => .set 7 .b
  | .set7C => .set 7 .c
  | .set7D => .set 7 .d
  | .set7E => .set 7 .e
  | .set7H => .set 7 .h
  | .set7L => .set 7 .l
  | .set7AtHl => .set 7 .atHl
  | .set7A => .set 7 .a

namespace Machine

/-- The registers a form may write among A, B, C, D, E, H, L (10_state.md R27). -/
def formRegs : Form → List R8
  | .ld .atHl _ => []
  | .ld dst _ => [dst]
  | .ldImm .atHl _ => []
  | .ldImm dst _ => [dst]
  | .ldA .hlInc => [.a, .h, .l]
  | .ldA .hlDec => [.a, .h, .l]
  | .ldA .bc => [.a]
  | .ldA .de => [.a]
  | .stA .hlInc => [.h, .l]
  | .stA .hlDec => [.h, .l]
  | .stA .bc => []
  | .stA .de => []
  | .ldAbs _ => [.a]
  | .stAbs _ => []
  | .ldh _ => [.a]
  | .sth _ => []
  | .ldC => [.a]
  | .stC => []
  | .ld16 .bc _ => [.b, .c]
  | .ld16 .de _ => [.d, .e]
  | .ld16 .hl _ => [.h, .l]
  | .ld16 .sp _ => []
  | .stSp _ => []
  | .ldSpHl => []
  | .pop .bc => [.b, .c]
  | .pop .de => [.d, .e]
  | .pop .hl => [.h, .l]
  | .pop .af => [.a]
  | .push _ => []
  | .alu .cp _ => []
  | .alu _ _ => [.a]
  | .aluImm .cp _ => []
  | .aluImm _ _ => [.a]
  | .inc8 .atHl => []
  | .inc8 dst => [dst]
  | .dec8 .atHl => []
  | .dec8 dst => [dst]
  | .daa => [.a]
  | .cpl => [.a]
  | .scf => []
  | .ccf => []
  | .inc16 .bc => [.b, .c]
  | .inc16 .de => [.d, .e]
  | .inc16 .hl => [.h, .l]
  | .inc16 .sp => []
  | .dec16 .bc => [.b, .c]
  | .dec16 .de => [.d, .e]
  | .dec16 .hl => [.h, .l]
  | .dec16 .sp => []
  | .addHl _ => [.h, .l]
  | .addSp _ => []
  | .ldHlSp _ => [.h, .l]
  | .rotA _ => [.a]
  | .rot _ .atHl => []
  | .rot _ o => [o]
  | .bit _ _ => []
  | .res _ .atHl => []
  | .res _ o => [o]
  | .set _ .atHl => []
  | .set _ o => [o]
  | .jp _ => []
  | .jpCc _ _ => []
  | .jpHl => []
  | .jr _ => []
  | .jrCc _ _ => []
  | .call _ => []
  | .callCc _ _ => []
  | .ret => []
  | .retCc _ => []
  | .reti => []
  | .rst _ => []
  | .nop => []
  | .halt => []
  | .stop _ => []
  | .di => []
  | .ei => []
  | .prefixCb _ => [.a, .b, .c, .d, .e, .h, .l]
  | .illegal _ => []

/-- The forms that write F (10_state.md R25). -/
def formWritesF : Form → Bool
  | .pop .af => true
  | .alu _ _ | .aluImm _ _ | .inc8 _ | .dec8 _ | .daa | .cpl | .scf | .ccf => true
  | .addHl _ | .addSp _ | .ldHlSp _ | .rotA _ | .rot _ _ | .bit _ _ | .prefixCb _ => true
  | _ => false

/-- The forms that write SP (10_state.md R23). -/
def formWritesSp : Form → Bool
  | .ld16 .sp _ | .ldSpHl | .pop _ | .push _ | .inc16 .sp | .dec16 .sp | .addSp _ => true
  | .call _ | .callCc _ _ | .ret | .retCc _ | .reti | .rst _ => true
  | _ => false

/-- The forms that write PC after the fetch, the control transfers (10_state.md R26). -/
def formWritesPc : Form → Bool
  | .jp _ | .jpCc _ _ | .jpHl | .jr _ | .jrCc _ _ | .call _ | .callCc _ _ => true
  | .ret | .retCc _ | .reti | .rst _ => true
  | _ => false

/-- The forms that write engine state: IME and the pending EI, the halt, the lock (10_state.md R27). -/
def formWritesEngine : Form → Bool
  | .reti | .halt | .di | .ei | .illegal _ => true
  | _ => false

/-- The two addresses a push stores to, low byte first (40_load_store.md R150). -/
def pushTargets (s : State) : List Addr := [s.regs.sp - 2, s.regs.sp - 2 + 1]

/-- The addresses a form stores to in state `s`, in order (40 to 45). -/
def storeTargets (s : State) : Form → List Addr
  | .ld .atHl _ => [getHl s]
  | .ldImm .atHl _ => [getHl s]
  | .stA m => [memAddr m s]
  | .stAbs a => [a]
  | .sth n => [highAddr n]
  | .stC => [highAddr s.regs.c]
  | .stSp a => [a, a + 1]
  | .push _ => pushTargets s
  | .inc8 .atHl => [getHl s]
  | .dec8 .atHl => [getHl s]
  | .rot _ .atHl => [getHl s]
  | .res _ .atHl => [getHl s]
  | .set _ .atHl => [getHl s]
  | .call _ => pushTargets s
  | .callCc cc _ => if condHolds cc s then pushTargets s else []
  | .rst _ => pushTargets s
  | .prefixCb _ => [getHl s]
  | _ => []

/-- The data bytes a whole instruction of a form reads and writes in state `s` (70_reset_and_hazards.md R397). -/
def formData (s : State) : Form → Nat
  | .ld dst src => if dst = .atHl ∨ src = .atHl then 1 else 0
  | .ldImm dst _ => if dst = .atHl then 1 else 0
  | .ldA _ | .stA _ | .ldAbs _ | .stAbs _ | .ldh _ | .sth _ | .ldC | .stC => 1
  | .stSp _ | .pop _ | .push _ | .call _ | .ret | .reti | .rst _ => 2
  | .callCc cc _ => if condHolds cc s then 2 else 0
  | .retCc cc => if condHolds cc s then 2 else 0
  | .alu _ o | .bit _ o => if o = .atHl then 1 else 0
  | .inc8 o | .dec8 o | .rot _ o | .res _ o | .set _ o => if o = .atHl then 2 else 0
  | .ld16 _ _ | .ldSpHl | .aluImm _ _ | .daa | .cpl | .scf | .ccf => 0
  | .inc16 _ | .dec16 _ | .addHl _ | .addSp _ | .ldHlSp _ | .rotA _ => 0
  | .jp _ | .jpCc _ _ | .jpHl | .jr _ | .jrCc _ _ => 0
  | .nop | .halt | .stop _ | .di | .ei | .illegal _ => 0
  | .prefixCb cb => if r8OfField (cb.extractLsb' 0 3) = .atHl then (if cb.extractLsb' 6 2 = 0b01 then 1 else 2) else 0

/-- The internal M-cycles of a whole instruction of a form in state `s`, as 70_reset_and_hazards.md R397 lists them. -/
def formInternal (s : State) : Form → Nat
  | .inc16 _ | .dec16 _ | .addHl _ | .ldSpHl | .ldHlSp _ | .push _ | .rst _ | .call _ | .ret | .reti => 1
  | .jp _ | .jr _ => 1
  | .callCc cc _ | .jpCc cc _ | .jrCc cc _ => if condHolds cc s then 1 else 0
  | .retCc cc => if condHolds cc s then 2 else 1
  | .addSp _ => 2
  | .ld _ _ | .ldImm _ _ | .ldA _ | .stA _ | .ldAbs _ | .stAbs _ | .ldh _ | .sth _ | .ldC | .stC => 0
  | .ld16 _ _ | .stSp _ | .pop _ | .alu _ _ | .aluImm _ _ | .inc8 _ | .dec8 _ => 0
  | .daa | .cpl | .scf | .ccf | .rotA _ | .rot _ _ | .bit _ _ | .res _ _ | .set _ _ | .jpHl => 0
  | .nop | .halt | .stop _ | .di | .ei | .prefixCb _ | .illegal _ => 0

end Machine

end Sys2Proof
end

