-- ==== Sys2Proof/Machine/Lifecycle.lean ====
section
/-! DEFINITION. The host's operations on a device other than `step()`: construction (70_reset_and_hazards.md
R388), the boot-skip (R385 to R387) and the debug snapshot (60_exceptions.md R367). -/

namespace Sys2Proof.Machine

/-- Why a device is not constructed (70_reset_and_hazards.md R388). -/
inductive ConstructionError where
  /-- The cartridge is exclusive to the newer generation and the device is the older one. -/
  | newerGenerationOnly
  deriving DecidableEq, Repr

/-- A header byte 0x0143 declares the cartridge newer-generation only: it is 0xC0 (70_reset_and_hazards.md R388). -/
def newerOnly (header : Byte) : Bool := decide (header = 0xC0)

/-- A header byte 0x0143 declares the cartridge newer-generation-capable (70_reset_and_hazards.md R385): 0xC0 does,
and of the other bytes the spec says nothing. Log entry 28. -/
def newerCapable (header : Byte) : Bool := newerOnly header || Config.newerCapable header

/-- Construction (70_reset_and_hazards.md R388, R380): the power-on state with the cartridge, its image, the boot
overlay program and the generation of the device. Log entries 4 and 24. -/
def construct (gen : Config.Gen) (cart : Cart) (bootImage image : List Byte) : Except ConstructionError State :=
  if gen = .dmg ∧ newerOnly (image.getD 0x0143 0x00) = true then .error .newerGenerationOnly
  else
    .ok { State.reset with
      mem := Memory.load [] 0 (image.take 0x8000)
      bootRom := Memory.load [] 0 (bootImage.take 0x100)
      collab := { State.reset.collab with cart := cart }
      params := { State.reset.params with gen := gen } }

/-- `POSTBOOT[DMG]` (70_reset_and_hazards.md R386). -/
def postBootDmg : Config.PostBoot where
  af := 0x01B0
  bc := 0x0013
  de := 0x00D8
  hl := 0x014D
  sp := 0xFFFE
  sysCounter := 0xABCC
  ifl := 0x01
  ie := 0x00
  tima := 0x00
  tma := 0x00
  tac := 0

/-- `POSTBOOT[combo]` (70_reset_and_hazards.md R386, R387). -/
def postBoot (combo : Config.Combo) : Config.PostBoot :=
  match combo with
  | .dmg => postBootDmg
  | .cgbCompat => Config.postBootCgbCompat
  | .cgb => Config.postBootCgb

/-- The cartridge entry point, PC of every `POSTBOOT` row (70_reset_and_hazards.md R386, R387). -/
def entryPoint : Addr := 0x0100

/-- The key of a boot-skip, the pair of generation and cartridge compatibility (70_reset_and_hazards.md R385); a
newer-only cartridge in an older device is no combination. DESIGN CHOICE: an older device takes the row `DMG` with every
other cartridge, one that is newer-generation-capable too, a pair R385 does not name. Log entry 29. -/
def comboOf (gen : Config.Gen) (header : Byte) : Option Config.Combo :=
  match gen with
  | .dmg => if newerOnly header then none else some .dmg
  | .cgb => some (if newerCapable header then .cgb else .cgbCompat)

/-- The compatibility byte of the cartridge image a device holds (20_memory.md R76, 70_reset_and_hazards.md R388). -/
def headerByte (s : State) : Byte := Memory.read s.mem 0x0143

/-- `bootSkip(combo)` (70_reset_and_hazards.md R385), for the row of the combination. -/
def loadPostBoot (p : Config.PostBoot) (s : State) : State :=
  let s1 := setPc (setSp (setHl (setDe (setBc (setAf s p.af) p.bc) p.de) p.hl) p.sp) entryPoint
  { s1 with
    engine :=
      { s1.engine with ime := false, imeScheduled := false, halted := false, haltBug := false }
    irq := { ie := p.ie, ifl := p.ifl }
    timer := { sysCounter := p.sysCounter, acc := 0, tima := p.tima, tma := p.tma, tac := p.tac }
    bootDisabled := true }

/-- The boot-skip the host may apply between steps (70_reset_and_hazards.md R385): its row is that of the device's
generation and the cartridge's compatibility; none where that pair does not exist. -/
def bootSkip (s : State) : Option State :=
  (comboOf s.params.gen (headerByte s)).map fun combo => loadPostBoot (postBoot combo) s

/-- The core's part of the debug snapshot (60_exceptions.md R367): video RAM and the sprite table. -/
structure Snapshot where
  vram : List Byte
  oam : List Byte
  deriving DecidableEq, Repr

/-- The snapshot reads the arrays themselves and changes nothing (60_exceptions.md R367). -/
def snapshot (s : State) : Snapshot where
  vram := (List.range 8192).map fun n => Memory.read s.mem (0x8000 + n)
  oam := (List.range 160).map fun n => Memory.read s.mem (0xFE00 + n)

end Sys2Proof.Machine
end

