-- ==== Sys2Proof/Safety.lean ====
section
/-! DEFINITION. What counts as a safe run of the core, the invariant of its states, and the terms statements are
written in. -/

namespace Sys2Proof.Machine

/-! ### Safe runs and the invariant -/

/-- No fault is recorded, the premise every claim about a run takes (45_system.md R307). -/
def State.faultFree (s : State) : Prop := s.engine.faults = []

/-- A key of `mem` that some address stores to or loads from: the cartridge image and the core's four arrays
(10_state.md R43, 20_memory.md R67). -/
def backed (n : Nat) : Bool :=
  decide (n ≤ 0x9FFF) || decide (0xC000 ≤ n ∧ n ≤ 0xDFFF) || decide (0xFE00 ≤ n ∧ n ≤ 0xFE9F)
    || decide (0xFF80 ≤ n ∧ n ≤ 0xFFFE)

/-- What every step keeps: both memories in canonical form and every listed key backed; the low nibble of F zero
(10_state.md R22); the engine locked exactly when a fault is recorded (R32, 60_exceptions.md R325); not both
halted and with the halt bug pending (45_system.md R301). -/
structure State.Inv (s : State) : Prop where
  memWf : Memory.wf s.mem = true
  bootWf : Memory.wf s.bootRom = true
  memBacked : ∀ n v, (n, v) ∈ s.mem → backed n = true
  fLowZero : s.regs.f &&& 0x0F = 0
  lockedIff : s.engine.locked = true ↔ s.engine.faults ≠ []
  notBoth : ¬(s.engine.halted = true ∧ s.engine.haltBug = true)

/-! ### Terms of statements -/

/-- Every field but the registers and the cost is the same. -/
structure SameButRegs (s t : State) : Prop where
  engine : t.engine = s.engine
  irq : t.irq = s.irq
  timer : t.timer = s.timer
  bootDisabled : t.bootDisabled = s.bootDisabled
  mem : t.mem = s.mem
  bootRom : t.bootRom = s.bootRom
  collab : t.collab = s.collab
  params : t.params = s.params
  totalCycles : t.totalCycles = s.totalCycles
  opAddr : t.opAddr = s.opAddr

/-- `v` was written to the operand `o`, and nothing else but registers and the cost differs from `s`. -/
def OperandWritten (o : R8) (v : Byte) (s t : State) : Prop :=
  if o = .atHl then SameButRegs (writeByte s (getHl s) v) t
  else regOf t o = some v ∧ SameButRegs s t

/-- The four flags of a state. -/
def FlagsAre (t : State) (z n h c : Bool) : Prop :=
  flagZ t = z ∧ flagN t = n ∧ flagH t = h ∧ flagC t = c

/-- The instruction ends in the state `t`, at the cost `k` of the cost table (70_reset_and_hazards.md R396) where `MEM_T`
and `M_T` have their default 4 (00_scope.md R6). -/
def Completes (i : Instr) (s t : State) (k : Nat) : Prop :=
  exec i s = .next t ∧ (s.params.memT = 4 → s.params.mT = 4 → t.cost = k)

/-- An address whose byte is the core's own and freely writable in state `s`: WRAM and its echo, HRAM, VRAM and
OAM where they are not contended (20_memory.md R67, R80). -/
def ramAt (s : State) (a : Addr) : Bool :=
  match regionOf a with
  | .wram | .echo | .hram => true
  | .vram => !vramContended s.collab.videoMode
  | .oam => !oamContended s.collab.videoMode
  | .bootWindow | .cartRom | .cartRam | .unusable | .io | .ieReg => false

/-- A store to `x` can change what a read of `a` gives: they name the same byte (20_memory.md R73), or `x` is the
boot register and `a` lies in the overlay window (R74). -/
def reaches (x a : Addr) : Bool :=
  decide (cellOf x = cellOf a) || (decide (x = 0xFF50) && decide (a.toNat ≤ 0x00FF))

/-- The state the step's CPU part starts from: the host events before the step have happened (60_exceptions.md
R366). -/
def atStepStart (s : State) : State := hostEvents (currentInput s) s

/-! ### Results as the spec words them -/

/-- `(A, Z, N, H, C) <- add8(a, v, cin)` (41_alu8.md R170), in unbounded sums. -/
def AddOutcome (a v : Byte) (cin : Bool) (t : State) : Prop :=
  t.regs.a.toNat = (a.toNat + v.toNat + cin.toNat) % 256 ∧
    FlagsAre t (decide ((a.toNat + v.toNat + cin.toNat) % 256 = 0)) false
      (decide (a.toNat % 16 + v.toNat % 16 + cin.toNat > 0x0F))
      (decide (a.toNat + v.toNat + cin.toNat > 0xFF))

/-- The flags of `sub8(a, v, cin)` (41_alu8.md R171): a borrow is a comparison of unbounded values. -/
def SubFlags (a v : Byte) (cin : Bool) (t : State) : Prop :=
  FlagsAre t (decide (a.toNat = (v.toNat + cin.toNat) % 256)) true
    (decide (a.toNat % 16 < v.toNat % 16 + cin.toNat))
    (decide (a.toNat < v.toNat + cin.toNat))

/-- The difference `a - v - cin` modulo 256 (41_alu8.md R171). -/
def SubResult (a v : Byte) (cin : Bool) (res : Byte) : Prop :=
  (res.toNat + v.toNat + cin.toNat) % 256 = a.toNat

/-- What a rotate or shift kind makes of a value and the old carry: the result and the new carry
(43_rotate_shift_bit.md R231 to R243). -/
def RotateOutcome (k : RotOp) (v : Byte) (cin : Bool) (res : Byte) (c : Bool) : Prop :=
  match k with
  | .rlc => res = v.rotateLeft 1 ∧ c = v.getLsbD 7
  | .rrc => res = v.rotateRight 1 ∧ c = v.getLsbD 0
  | .rl => res = (v ++ BitVec.ofBool cin).extractLsb' 0 8 ∧ c = v.getLsbD 7
  | .rr => res = (BitVec.ofBool cin ++ v).extractLsb' 1 8 ∧ c = v.getLsbD 0
  | .sla => res.toNat = v.toNat * 2 % 256 ∧ c = v.getLsbD 7
  | .sra => res = v.sshiftRight 1 ∧ c = v.getLsbD 0
  | .swap => res = v.extractLsb' 0 4 ++ v.extractLsb' 4 4 ∧ c = false
  | .srl => res.toNat = v.toNat / 2 ∧ c = v.getLsbD 0

/-- The packed BCD byte of a number below 100. -/
def bcd (n : Nat) : Byte := BitVec.ofNat 8 (n / 10 * 16 + n % 10)

end Sys2Proof.Machine
end

