-- ==== Sys2Proof/Certificates/Slice0/Obligations.lean ====
section
/-! DEFINITION. The statements for the provers. A statement over an instruction ranges over its form (the table
`Instr.form` of Machine/Forms.lean names the constructor of every row), says that `exec` ends in a next state, and
says what that state holds; `Completes` gives its cost at the default `MEM_T` and `M_T`, and `RegisterFrame` the cost of
every instruction at any value of them. The frame statements say what every instruction leaves alone. -/

open Sys2Proof Sys2Proof.Machine

/-! ### Encoding -/

/-- Decoding what the encoder writes gives the instruction back, with every operand at every value, whatever
follows it (30_encoding.md R106, R113, R114, R116). -/
def Obligations.DecodeOfEncode : Prop :=
  ∀ (i : Instr) (rest : List Byte), i.wellFormed = true → decode (encode i ++ rest) = .ok (i, rest)

/-- A decoded instruction is a whole one, and its encoding is the very bytes it was decoded from: no bit of an
instruction is dropped, the ignored byte of STOP included (30_encoding.md R101, R116). -/
def Obligations.EncodeOfDecode : Prop :=
  ∀ (bs rest : List Byte) (i : Instr),
    decode bs = .ok (i, rest) → encode i ++ rest = bs ∧ i.wellFormed = true

/-- Decoding is total: a run of bytes decodes exactly when it is as long as its first byte asks for, and it is then
1, 2 or 3 bytes (30_encoding.md R101, R116). -/
def Obligations.DecodeIsTotal : Prop :=
  ∀ (op : Byte) (rest : List Byte),
    (instrLength op = 1 ∨ instrLength op = 2 ∨ instrLength op = 3) ∧
    ((∃ i r, decode (op :: rest) = .ok (i, r)) ↔ instrLength op ≤ rest.length + 1)

/-- Blocks x = 1 and x = 2 of the primary map by their fields: `0b01dddsss` is LD r8[d],r8[s], but for HALT, and
`0b10aaasss` is alu[a] A,r8[s] (30_encoding.md R103, R107, R109, R110). -/
def Obligations.RegisterBlockFields : Prop :=
  (∀ (d s : BitVec 3) (rest : List Byte), ¬(d = 6 ∧ s = 6) →
    ∃ i, decode (((0b01 : BitVec 2) ++ d ++ s) :: rest) = .ok (i, rest) ∧
      i.form = .ld (r8OfField d) (r8OfField s)) ∧
  (∀ rest : List Byte, decode (0x76 :: rest) = .ok (.halt, rest)) ∧
  (∀ (op s : BitVec 3) (rest : List Byte),
    ∃ i, decode (((0b10 : BitVec 2) ++ op ++ s) :: rest) = .ok (i, rest) ∧
      i.form = .alu (aluOfField op) (r8OfField s)) ∧
  [0, 1, 2, 3, 4, 5, 6, 7].map r8OfField = [R8.b, .c, .d, .e, .h, .l, .atHl, .a] ∧
  [0, 1, 2, 3, 4, 5, 6, 7].map aluOfField = [AluOp.add, .adc, .sub, .sbc, .and, .xor, .or, .cp]

/-- Block x = 0 by its fields (30_encoding.md R104, R105, R106, R108): the register, pair and condition forms, with
the immediates assembled low byte first. -/
def Obligations.BlockZeroFields : Prop :=
  (∀ (y : BitVec 3) (b2 : Byte) (rest : List Byte),
    (∃ i, decode (((0b00 : BitVec 2) ++ y ++ (4 : BitVec 3)) :: rest) = .ok (i, rest) ∧
      i.form = .inc8 (r8OfField y)) ∧
    (∃ i, decode (((0b00 : BitVec 2) ++ y ++ (5 : BitVec 3)) :: rest) = .ok (i, rest) ∧
      i.form = .dec8 (r8OfField y)) ∧
    (∃ i, decode (((0b00 : BitVec 2) ++ y ++ (6 : BitVec 3)) :: b2 :: rest) = .ok (i, rest) ∧
      i.form = .ldImm (r8OfField y) b2)) ∧
  (∀ (p : BitVec 2) (b2 b3 : Byte) (rest : List Byte),
    (∃ i, decode (((0b00 : BitVec 2) ++ p ++ (0b0001 : BitVec 4)) :: b2 :: b3 :: rest) = .ok (i, rest) ∧
      i.form = .ld16 (r16OfField p) (b3 ++ b2)) ∧
    (∃ i, decode (((0b00 : BitVec 2) ++ p ++ (0b1001 : BitVec 4)) :: rest) = .ok (i, rest) ∧
      i.form = .addHl (r16OfField p)) ∧
    (∃ i, decode (((0b00 : BitVec 2) ++ p ++ (0b0010 : BitVec 4)) :: rest) = .ok (i, rest) ∧
      i.form = .stA (memOfField p)) ∧
    (∃ i, decode (((0b00 : BitVec 2) ++ p ++ (0b1010 : BitVec 4)) :: rest) = .ok (i, rest) ∧
      i.form = .ldA (memOfField p)) ∧
    (∃ i, decode (((0b00 : BitVec 2) ++ p ++ (0b0011 : BitVec 4)) :: rest) = .ok (i, rest) ∧
      i.form = .inc16 (r16OfField p)) ∧
    (∃ i, decode (((0b00 : BitVec 2) ++ p ++ (0b1011 : BitVec 4)) :: rest) = .ok (i, rest) ∧
      i.form = .dec16 (r16OfField p)) ∧
    (∃ i, decode (((0b001 : BitVec 3) ++ p ++ (0b000 : BitVec 3)) :: b2 :: rest) = .ok (i, rest) ∧
      i.form = .jrCc (ccOfField p) b2))

/-- Block x = 3 by its fields (30_encoding.md R104, R105, R106, R107, R111): the conditional, stack, immediate ALU and
restart forms. -/
def Obligations.BlockThreeFields : Prop :=
  (∀ (p : BitVec 2) (b2 b3 : Byte) (rest : List Byte),
    (∃ i, decode (((0b110 : BitVec 3) ++ p ++ (0b000 : BitVec 3)) :: rest) = .ok (i, rest) ∧
      i.form = .retCc (ccOfField p)) ∧
    (∃ i, decode (((0b110 : BitVec 3) ++ p ++ (0b010 : BitVec 3)) :: b2 :: b3 :: rest) = .ok (i, rest) ∧
      i.form = .jpCc (ccOfField p) (b3 ++ b2)) ∧
    (∃ i, decode (((0b110 : BitVec 3) ++ p ++ (0b100 : BitVec 3)) :: b2 :: b3 :: rest) = .ok (i, rest) ∧
      i.form = .callCc (ccOfField p) (b3 ++ b2)) ∧
    (∃ i, decode (((0b11 : BitVec 2) ++ p ++ (0b0001 : BitVec 4)) :: rest) = .ok (i, rest) ∧
      i.form = .pop (stkOfField p)) ∧
    (∃ i, decode (((0b11 : BitVec 2) ++ p ++ (0b0101 : BitVec 4)) :: rest) = .ok (i, rest) ∧
      i.form = .push (stkOfField p))) ∧
  (∀ (y : BitVec 3) (b2 : Byte) (rest : List Byte),
    (∃ i, decode (((0b11 : BitVec 2) ++ y ++ (6 : BitVec 3)) :: b2 :: rest) = .ok (i, rest) ∧
      i.form = .aluImm (aluOfField y) b2) ∧
    (∃ i, decode (((0b11 : BitVec 2) ++ y ++ (7 : BitVec 3)) :: rest) = .ok (i, rest) ∧
      i.form = .rst y))

/-- The secondary map by its fields: bits 7 to 6 select the group, bits 5 to 3 the kind or the bit number, bits 2 to
0 the operand (30_encoding.md R107, R112). -/
def Obligations.SecondaryFields : Prop :=
  ∀ (y z : BitVec 3) (rest : List Byte),
    (∃ i, decode (0xCB :: ((0b00 : BitVec 2) ++ y ++ z) :: rest) = .ok (i, rest) ∧
      i.form = .rot (rotOfField y) (r8OfField z)) ∧
    (∃ i, decode (0xCB :: ((0b01 : BitVec 2) ++ y ++ z) :: rest) = .ok (i, rest) ∧
      i.form = .bit y (r8OfField z)) ∧
    (∃ i, decode (0xCB :: ((0b10 : BitVec 2) ++ y ++ z) :: rest) = .ok (i, rest) ∧
      i.form = .res y (r8OfField z)) ∧
    (∃ i, decode (0xCB :: ((0b11 : BitVec 2) ++ y ++ z) :: rest) = .ok (i, rest) ∧
      i.form = .set y (r8OfField z)) ∧
    [0, 1, 2, 3, 4, 5, 6, 7].map rotOfField = [RotOp.rlc, .rrc, .rl, .rr, .sla, .sra, .swap, .srl]

/-- Words written out from the spec's examples decode to the instruction they stand for (40_load_store.md R131, R144,
R145; 41_alu8.md R180; 42_alu16.md R216; 43_rotate_shift_bit.md R244; 44_control.md R275, R277; 45_system.md R307). -/
def Obligations.SampleWordsDecode : Prop :=
  decode [0x3E, 0x5A] = .ok (.ldAD8 0x5A, []) ∧
  decode [0x21, 0x34, 0x12] = .ok (.ldHlD16 0x1234, []) ∧
  decode [0x08, 0x00, 0xC0] = .ok (.ldAtA16Sp 0xC000, []) ∧
  decode [0xDE, 0x4F] = .ok (.sbcAD8 0x4F, []) ∧
  decode [0xE8, 0x02] = .ok (.addSpE8 0x02, []) ∧
  decode [0xCB, 0x7F] = .ok (.bit7A, []) ∧
  decode [0x20, 0xFB] = .ok (.jrNzE8 0xFB, []) ∧
  decode [0xDC, 0x00, 0x30] = .ok (.callCA16 0x3000, []) ∧
  decode [0xD3, 0x3C] = .ok (.illegalD3, [0x3C])

/-! ### The router -/

/-- The region map: what a read of each address gives and what a write to it does (20_memory.md R67). -/
def Obligations.RouterRegionMap : Prop :=
  ∀ (s : State) (a : Addr) (v : Byte),
    (a.toNat ≤ 0x00FF →
      readByte s a = (if s.bootDisabled then cartRead s a else (Memory.read s.bootRom a.toNat, s)) ∧
      writeByte s a v = cartWrite s a v) ∧
    (0x0100 ≤ a.toNat → a.toNat ≤ 0x7FFF →
      readByte s a = cartRead s a ∧ writeByte s a v = cartWrite s a v) ∧
    (0x8000 ≤ a.toNat → a.toNat ≤ 0x9FFF →
      peek s a = (if s.collab.videoMode = .mode3 then 0xFF else Memory.read s.mem a.toNat) ∧
      writeByte s a v =
        (if s.collab.videoMode = .mode3 then s else { s with mem := Memory.write s.mem a.toNat v })) ∧
    (0xA000 ≤ a.toNat → a.toNat ≤ 0xBFFF →
      readByte s a = cartRead s a ∧ writeByte s a v = cartWrite s a v) ∧
    (0xC000 ≤ a.toNat → a.toNat ≤ 0xDFFF →
      peek s a = Memory.read s.mem a.toNat ∧
      writeByte s a v = { s with mem := Memory.write s.mem a.toNat v }) ∧
    (0xE000 ≤ a.toNat → a.toNat ≤ 0xFDFF →
      peek s a = Memory.read s.mem (a.toNat - 0x2000) ∧
      writeByte s a v = { s with mem := Memory.write s.mem (a.toNat - 0x2000) v }) ∧
    (0xFE00 ≤ a.toNat → a.toNat ≤ 0xFE9F →
      peek s a =
        (if s.collab.videoMode = .mode2 ∨ s.collab.videoMode = .mode3 then 0xFF
         else Memory.read s.mem a.toNat) ∧
      writeByte s a v =
        (if s.collab.videoMode = .mode2 ∨ s.collab.videoMode = .mode3 then s
         else { s with mem := Memory.write s.mem a.toNat v })) ∧
    (0xFEA0 ≤ a.toNat → a.toNat ≤ 0xFEFF → peek s a = 0x00 ∧ writeByte s a v = s) ∧
    (0xFF00 ≤ a.toNat → a.toNat ≤ 0xFF7F →
      peek s a = (ioRead s a).1 ∧ writeByte s a v = ioWrite s a v) ∧
    (0xFF80 ≤ a.toNat → a.toNat ≤ 0xFFFE →
      peek s a = Memory.read s.mem a.toNat ∧
      writeByte s a v = { s with mem := Memory.write s.mem a.toNat v }) ∧
    (a.toNat = 0xFFFF →
      peek s a = s.irq.ie ∧ writeByte s a v = { s with irq := { s.irq with ie := v } })

/-- The I/O registers the core owns, read and written, and every other I/O address at the collaborator
(20_memory.md R77). -/
def Obligations.IoRegisterMap : Prop :=
  ∀ (s : State) (v : Byte),
    (readByte s 0xFF04 = (s.timer.sysCounter.extractLsb' 8 8, s) ∧
      writeByte s 0xFF04 v = { s with timer := { s.timer with sysCounter := 0, acc := 0 } }) ∧
    (readByte s 0xFF05 = (s.timer.tima, s) ∧
      writeByte s 0xFF05 v = { s with timer := { s.timer with tima := v } }) ∧
    (readByte s 0xFF06 = (s.timer.tma, s) ∧
      writeByte s 0xFF06 v = { s with timer := { s.timer with tma := v } }) ∧
    (readByte s 0xFF07 = (0xF8 ||| s.timer.tac.zeroExtend 8, s) ∧
      writeByte s 0xFF07 v = { s with timer := { s.timer with tac := v.extractLsb' 0 3 } }) ∧
    (readByte s 0xFF0F = (0xE0 ||| s.irq.ifl.zeroExtend 8, s) ∧
      writeByte s 0xFF0F v = { s with irq := { s.irq with ifl := v.extractLsb' 0 5 } }) ∧
    (readByte s 0xFF50 = (0xFF, s) ∧
      writeByte s 0xFF50 v = (if v = 0 then s else { s with bootDisabled := true })) ∧
    (∀ a : Addr, 0xFF00 ≤ a.toNat → a.toNat ≤ 0xFF7F →
      a ≠ 0xFF04 → a ≠ 0xFF05 → a ≠ 0xFF06 → a ≠ 0xFF07 → a ≠ 0xFF0F → a ≠ 0xFF50 →
      readByte s a = extIoRead s ∧ writeByte s a v = extIoWrite s a v)

/-- An echo address names the byte 0x2000 below it, for reads and for writes (20_memory.md R73). -/
def Obligations.EchoNamesWram : Prop :=
  ∀ (s : State) (a : Addr) (v : Byte), 0xE000 ≤ a.toNat → a.toNat ≤ 0xFDFF →
    readByte s a = readByte s (a - 0x2000) ∧ writeByte s a v = writeByte s (a - 0x2000) v

/-- Every read returns the most recent write: a byte stored at a writable address reads back, there and at no
address the store does not reach, but where a collaborator answers (20_memory.md R73, R84). The memory is in its
canonical form, which every step keeps. A store to a cartridge address is the cartridge's own affair (R75, R83): the
default one does nothing with it, so its other bytes read as before, and any other changes its own state. That the
cartridge is the default one or one known by its own state alone is the model's form of the parameter `CART`, log entry
4. -/
def Obligations.StoreThenLoad : Prop :=
  ∀ (s : State) (a : Addr) (v : Byte), Memory.wf s.mem = true →
    (ramAt s a = true → peek (writeByte s a v) a = v) ∧
    (∀ b : Addr, answeredOutside s b = false → reaches a b = false → peek (writeByte s a v) b = peek s b) ∧
    (a.toNat ≤ 0x7FFF ∨ (0xA000 ≤ a.toNat ∧ a.toNat ≤ 0xBFFF) →
      (s.collab.cart = .romOnly →
        writeByte s a v = { s with collab := { s.collab with sent := (a.toNat, v) :: s.collab.sent } }) ∧
      (∀ n, s.collab.cart = .supplied n →
        writeByte s a v =
          { s with
            collab :=
              { s.collab with
                cart := .supplied (Config.cartAfterWrite n a v)
                sent := (a.toNat, v) :: s.collab.sent } }))

/-- A read that neither `EXT_IO` nor a cartridge other than the default one answers changes no state; a read of an
`EXT_IO` address changes only the collaborator's answers; and a read of the cartridge gives the default one's bytes, or
what any other makes of its own state, and changes that state alone (20_memory.md R68, R75, R83; the cartridge's form is
log entry 4, the answers' log entry 8). -/
def Obligations.ReadsHaveNoSideEffect : Prop :=
  ∀ (s : State) (a : Addr),
    (answeredOutside s a = false → (readByte s a).2 = s) ∧
    (extOwned a = true →
      readByte s a = (extIoAnswer s.collab, { s with collab := extIoSpent s.collab })) ∧
    ((a.toNat ≤ 0x7FFF ∧ (0x0100 ≤ a.toNat ∨ s.bootDisabled = true)) ∨ (0xA000 ≤ a.toNat ∧ a.toNat ≤ 0xBFFF) →
      (s.collab.cart = .romOnly →
        readByte s a = (if a.toNat ≤ 0x7FFF then Memory.read s.mem a.toNat else 0xFF, s)) ∧
      (∀ n, s.collab.cart = .supplied n →
        readByte s a =
          (Config.cartByte n a,
            { s with collab := { s.collab with cart := .supplied (Config.cartAfterRead n a) } })))

/-! ### Loads, stores, stack -/

/-- LD r8,r8' (63 constructors ldBB to ldAA) and LD r8,d8 (8: ldBD8 to ldAD8): the operand or the immediate byte
goes to the destination, and no flag changes (40_load_store.md R130, R131). -/
def Obligations.LoadByteRuns : Prop :=
  (∀ (i : Instr) (dst src : R8) (s : State), i.form = .ld dst src →
    ∃ t, Completes i s t (if dst = .atHl ∨ src = .atHl then 8 else 4) ∧
      OperandWritten dst (readR8 src s).1 (readR8 src s).2 t ∧ t.regs.f = s.regs.f) ∧
  (∀ (i : Instr) (dst : R8) (v : Byte) (s : State), i.form = .ldImm dst v →
    ∃ t, Completes i s t (if dst = .atHl then 12 else 8) ∧
      OperandWritten dst v s t ∧ t.regs.f = s.regs.f)

/-- LD A,(BC), (DE), (HL+), (HL-) (ldAAtBc, ldAAtDe, ldAAtHlInc, ldAAtHlDec): A from the byte at the address, then
HL one further or one back (40_load_store.md R132, R134, R135). -/
def Obligations.LoadAThroughPairRuns : Prop :=
  ∀ (i : Instr) (m : R16Mem) (s : State), i.form = .ldA m →
    ∃ t, Completes i s t 8 ∧
      (m = .bc → t.regs.a = peek s (getBc s) ∧ getHl t = getHl s ∧ SameButRegs (readByte s (getBc s)).2 t) ∧
      (m = .de → t.regs.a = peek s (getDe s) ∧ getHl t = getHl s ∧ SameButRegs (readByte s (getDe s)).2 t) ∧
      (m = .hlInc →
        t.regs.a = peek s (getHl s) ∧ getHl t = getHl s + 1 ∧ SameButRegs (readByte s (getHl s)).2 t) ∧
      (m = .hlDec →
        t.regs.a = peek s (getHl s) ∧ getHl t = getHl s - 1 ∧ SameButRegs (readByte s (getHl s)).2 t) ∧
      t.regs.f = s.regs.f

/-- LD (BC),A, (DE), (HL+), (HL-) (ldAtBcA, ldAtDeA, ldAtHlIncA, ldAtHlDecA): A to the byte at the address, then HL
one further or one back (40_load_store.md R133, R136, R137). -/
def Obligations.StoreAThroughPairRuns : Prop :=
  ∀ (i : Instr) (m : R16Mem) (s : State), i.form = .stA m →
    ∃ t, Completes i s t 8 ∧
      (m = .bc → getHl t = getHl s ∧ SameButRegs (writeByte s (getBc s) s.regs.a) t) ∧
      (m = .de → getHl t = getHl s ∧ SameButRegs (writeByte s (getDe s) s.regs.a) t) ∧
      (m = .hlInc → getHl t = getHl s + 1 ∧ SameButRegs (writeByte s (getHl s) s.regs.a) t) ∧
      (m = .hlDec → getHl t = getHl s - 1 ∧ SameButRegs (writeByte s (getHl s) s.regs.a) t) ∧
      t.regs.a = s.regs.a ∧ t.regs.f = s.regs.f

/-- LD A,(a16), LDH A,(a8), LD A,(C) (ldAAtA16, ldhAAtA8, ldAAtC) and their stores (ldAtA16A, ldhAtA8A, ldAtCA)
(40_load_store.md R138 to R143); `0xFF00 | n` is 0xFF00 + n. -/
def Obligations.AbsoluteLoadStoreRuns : Prop :=
  ∀ (i : Instr) (s : State),
    (∀ a : Addr, i.form = .ldAbs a →
      ∃ t, Completes i s t 16 ∧ t.regs.a = peek s a ∧ SameButRegs (readByte s a).2 t) ∧
    (∀ n : Byte, i.form = .ldh n →
      ∃ t, Completes i s t 12 ∧ t.regs.a = peek s (0xFF00 + n.zeroExtend 16) ∧
        SameButRegs (readByte s (0xFF00 + n.zeroExtend 16)).2 t) ∧
    (i.form = .ldC →
      ∃ t, Completes i s t 8 ∧ t.regs.a = peek s (0xFF00 + s.regs.c.zeroExtend 16) ∧
        SameButRegs (readByte s (0xFF00 + s.regs.c.zeroExtend 16)).2 t) ∧
    (∀ a : Addr, i.form = .stAbs a →
      ∃ t, Completes i s t 16 ∧ SameButRegs (writeByte s a s.regs.a) t) ∧
    (∀ n : Byte, i.form = .sth n →
      ∃ t, Completes i s t 12 ∧ SameButRegs (writeByte s (0xFF00 + n.zeroExtend 16) s.regs.a) t) ∧
    (i.form = .stC →
      ∃ t, Completes i s t 8 ∧ SameButRegs (writeByte s (0xFF00 + s.regs.c.zeroExtend 16) s.regs.a) t)

/-- LD r16,d16 (ldBcD16, ldDeD16, ldHlD16, ldSpD16), LD SP,HL (ldSpHl), and LD (a16),SP (ldAtA16Sp), which stores SP's
low byte at a16 and its high byte at a16 + 1 (40_load_store.md R144, R145, R146; its cost by 70_reset_and_hazards.md R397,
log entry 7). -/
def Obligations.LoadWordRuns : Prop :=
  (∀ (i : Instr) (r : R16) (v : Word) (s : State), i.form = .ld16 r v →
    ∃ t, Completes i s t 12 ∧ readR16 r t = v ∧ SameButRegs s t ∧ t.regs.f = s.regs.f) ∧
  (∀ (i : Instr) (s : State), i.form = .ldSpHl →
    ∃ t, Completes i s t 8 ∧ t.regs.sp = getHl s ∧ SameButRegs s t ∧ t.regs.f = s.regs.f) ∧
  (∀ (i : Instr) (a : Addr) (s : State), i.form = .stSp a →
    exec i s = .next
      { writeByte (writeByte s a (s.regs.sp.extractLsb' 0 8)) (a + 1) (s.regs.sp.extractLsb' 8 8) with
        cost := 5 * s.params.memT })

/-- PUSH (pushBc, pushDe, pushHl, pushAf): SP down by 2, the low byte of the pair at the new SP, then the high byte
above it (40_load_store.md R150, R153). -/
def Obligations.PushRuns : Prop :=
  ∀ (i : Instr) (r : R16Stk) (s : State), i.form = .push r →
    ∃ t, Completes i s t 16 ∧ t.regs.sp = s.regs.sp - 2 ∧
      SameButRegs
        (writeByte (writeByte s (s.regs.sp - 2) ((readStk r s).extractLsb' 0 8)) (s.regs.sp - 1)
          ((readStk r s).extractLsb' 8 8)) t

/-- POP (popBc, popDe, popHl, popAf): the pair from the bytes at SP and SP + 1, SP up by 2, and F with its low nibble
0 for AF (40_load_store.md R151, R152; 10_state.md R22). -/
def Obligations.PopRuns : Prop :=
  ∀ (i : Instr) (r : R16Stk) (s : State), i.form = .pop r →
    ∃ t, Completes i s t 12 ∧ t.regs.sp = s.regs.sp + 2 ∧
      readStk r t =
        (peek (readByte s s.regs.sp).2 (s.regs.sp + 1) ++ peek s s.regs.sp) &&&
          (if r = .af then 0xFFF0 else 0xFFFF) ∧
      SameButRegs (readByte (readByte s s.regs.sp).2 (s.regs.sp + 1)).2 t

/-- PUSH and then POP of any two pairs, on a stack in writable memory, copies the first pair to the second and gives
SP back; a copy into AF has the low nibble of F zero (40_load_store.md R150 to R153). -/
def Obligations.PushThenPopCopies : Prop :=
  ∀ (i j : Instr) (p q : R16Stk) (s : State), i.form = .push p → j.form = .pop q →
    Memory.wf s.mem = true → ramAt s (s.regs.sp - 2) = true → ramAt s (s.regs.sp - 1) = true →
    ∃ t u, exec i s = .next t ∧ exec j t = .next u ∧
      readStk q u = readStk p s &&& (if q = .af then 0xFFF0 else 0xFFFF) ∧ u.regs.sp = s.regs.sp

/-! ### 8-bit arithmetic and logic -/

/-- ADD A and ADC A with a register, `(HL)` or an immediate (16 constructors addAB to adcAA, and addAD8, adcAD8): sum
and flags as R170 gives them, with the carry for ADC (41_alu8.md R170, R173 to R176). -/
def Obligations.AddRuns : Prop :=
  (∀ (i : Instr) (op : AluOp) (o : R8) (s : State), op = .add ∨ op = .adc → i.form = .alu op o →
    ∃ t, Completes i s t (if o = .atHl then 8 else 4) ∧
      AddOutcome s.regs.a (readR8 o s).1 (decide (op = .adc) && flagC s) t ∧ SameButRegs (readR8 o s).2 t) ∧
  (∀ (i : Instr) (op : AluOp) (v : Byte) (s : State), op = .add ∨ op = .adc → i.form = .aluImm op v →
    ∃ t, Completes i s t 8 ∧
      AddOutcome s.regs.a v (decide (op = .adc) && flagC s) t ∧ SameButRegs s t)

/-- SUB A, SBC A and CP A with a register, `(HL)` or an immediate (24 constructors subAB to sbcAA and cpAB to cpAA, and
subAD8, sbcAD8, cpAD8): difference and flags as R171 gives them, and CP leaves A (41_alu8.md R171, R177 to R180, R187,
R188). -/
def Obligations.SubRuns : Prop :=
  (∀ (i : Instr) (op : AluOp) (o : R8) (s : State), op = .sub ∨ op = .sbc ∨ op = .cp → i.form = .alu op o →
    ∃ t, Completes i s t (if o = .atHl then 8 else 4) ∧
      SubFlags s.regs.a (readR8 o s).1 (decide (op = .sbc) && flagC s) t ∧
      (op ≠ .cp → SubResult s.regs.a (readR8 o s).1 (decide (op = .sbc) && flagC s) t.regs.a) ∧
      (op = .cp → t.regs.a = s.regs.a) ∧ SameButRegs (readR8 o s).2 t) ∧
  (∀ (i : Instr) (op : AluOp) (v : Byte) (s : State), op = .sub ∨ op = .sbc ∨ op = .cp → i.form = .aluImm op v →
    ∃ t, Completes i s t 8 ∧
      SubFlags s.regs.a v (decide (op = .sbc) && flagC s) t ∧
      (op ≠ .cp → SubResult s.regs.a v (decide (op = .sbc) && flagC s) t.regs.a) ∧
      (op = .cp → t.regs.a = s.regs.a) ∧ SameButRegs s t)

/-- AND A, XOR A and OR A with a register, `(HL)` or an immediate (24 constructors andAB to orAA, and andAD8, xorAD8,
orAD8): the bitwise result, Z by it, N = C = 0, H = 1 for AND alone (41_alu8.md R172, R181 to R186). -/
def Obligations.LogicRuns : Prop :=
  (∀ (i : Instr) (op : AluOp) (o : R8) (s : State), op = .and ∨ op = .xor ∨ op = .or → i.form = .alu op o →
    ∃ t, Completes i s t (if o = .atHl then 8 else 4) ∧
      (op = .and → t.regs.a = s.regs.a &&& (readR8 o s).1) ∧
      (op = .xor → t.regs.a = s.regs.a ^^^ (readR8 o s).1) ∧
      (op = .or → t.regs.a = s.regs.a ||| (readR8 o s).1) ∧
      FlagsAre t (decide (t.regs.a = 0)) false (decide (op = .and)) false ∧ SameButRegs (readR8 o s).2 t) ∧
  (∀ (i : Instr) (op : AluOp) (v : Byte) (s : State), op = .and ∨ op = .xor ∨ op = .or → i.form = .aluImm op v →
    ∃ t, Completes i s t 8 ∧
      (op = .and → t.regs.a = s.regs.a &&& v) ∧
      (op = .xor → t.regs.a = s.regs.a ^^^ v) ∧
      (op = .or → t.regs.a = s.regs.a ||| v) ∧
      FlagsAre t (decide (t.regs.a = 0)) false (decide (op = .and)) false ∧ SameButRegs s t)

/-- INC r8 and DEC r8 (incB to incA, decB to decA, 16 constructors): the operand one up or down modulo 256, Z and H by
the result, C unchanged (41_alu8.md R189, R190, R191). -/
def Obligations.IncDecByteRuns : Prop :=
  (∀ (i : Instr) (o : R8) (s : State), i.form = .inc8 o →
    ∃ t res, Completes i s t (if o = .atHl then 12 else 4) ∧
      res.toNat = ((readR8 o s).1.toNat + 1) % 256 ∧ OperandWritten o res (readR8 o s).2 t ∧
      FlagsAre t (decide (res = 0)) false (decide ((readR8 o s).1.toNat % 16 = 0x0F)) (flagC s)) ∧
  (∀ (i : Instr) (o : R8) (s : State), i.form = .dec8 o →
    ∃ t res, Completes i s t (if o = .atHl then 12 else 4) ∧
      (res.toNat + 1) % 256 = (readR8 o s).1.toNat ∧ OperandWritten o res (readR8 o s).2 t ∧
      FlagsAre t (decide (res = 0)) true (decide ((readR8 o s).1.toNat % 16 = 0x00)) (flagC s))

/-- DAA (daa): in add mode the same A and C as the algorithm that tests the unadjusted A against 0x99 first, in
subtract mode `(A - 6*H - 0x60*C) mod 256` with C unchanged, N unchanged, H = 0 and Z by the result (41_alu8.md
R192). -/
def Obligations.DaaRuns : Prop :=
  ∀ (i : Instr) (s : State), i.form = .daa →
    ∃ t, Completes i s t 4 ∧ SameButRegs s t ∧
      (flagN s = false →
        t.regs.a.toNat =
          (s.regs.a.toNat + (if flagH s = true ∨ s.regs.a.toNat % 16 > 9 then 0x06 else 0) +
            (if flagC s = true ∨ s.regs.a.toNat > 0x99 then 0x60 else 0)) % 256 ∧
        flagC t = (flagC s || decide (s.regs.a.toNat > 0x99))) ∧
      (flagN s = true →
        (t.regs.a.toNat + (if flagH s then 6 else 0) + (if flagC s then 0x60 else 0)) % 256 = s.regs.a.toNat ∧
        flagC t = flagC s) ∧
      flagZ t = decide (t.regs.a = 0) ∧ flagN t = flagN s ∧ flagH t = false

/-- Decimal arithmetic: ADC A,d8 and then DAA adds two packed BCD bytes and the carry, SBC A,d8 and then DAA subtracts
them, modulo 100, and C is the decimal carry or borrow (41_alu8.md R176, R180, R192). -/
def Obligations.BcdArithmetic : Prop :=
  ∀ (s : State) (x y : Nat), x < 100 → y < 100 → s.regs.a = bcd x →
    (∃ t u, exec (.adcAD8 (bcd y)) s = .next t ∧ exec .daa t = .next u ∧
      u.regs.a = bcd ((x + y + (flagC s).toNat) % 100) ∧
      flagC u = decide (x + y + (flagC s).toNat ≥ 100)) ∧
    (∃ t u, exec (.sbcAD8 (bcd y)) s = .next t ∧ exec .daa t = .next u ∧
      u.regs.a = bcd ((x + 100 - y - (flagC s).toNat) % 100) ∧
      flagC u = decide (x < y + (flagC s).toNat))

/-- CPL, SCF and CCF (cpl, scf, ccf) (41_alu8.md R193, R194, R195). -/
def Obligations.FlagInstructionsRun : Prop :=
  ∀ (i : Instr) (s : State),
    (i.form = .cpl → ∃ t, Completes i s t 4 ∧ SameButRegs s t ∧ t.regs.a = ~~~s.regs.a ∧
      FlagsAre t (flagZ s) true true (flagC s)) ∧
    (i.form = .scf → ∃ t, Completes i s t 4 ∧ SameButRegs s t ∧ t.regs.a = s.regs.a ∧
      FlagsAre t (flagZ s) false false true) ∧
    (i.form = .ccf → ∃ t, Completes i s t 4 ∧ SameButRegs s t ∧ t.regs.a = s.regs.a ∧
      FlagsAre t (flagZ s) false false (!flagC s))

/-! ### 16-bit arithmetic -/

/-- INC r16 and DEC r16 (incBc, incDe, incHl, incSp, decBc, decDe, decHl, decSp): the pair one up or down modulo 65536,
F unchanged (42_alu16.md R210, R211, R212). -/
def Obligations.IncDecWordRuns : Prop :=
  (∀ (i : Instr) (r : R16) (s : State), i.form = .inc16 r →
    ∃ t, Completes i s t 8 ∧ (readR16 r t).toNat = ((readR16 r s).toNat + 1) % 65536 ∧ SameButRegs s t ∧
      t.regs.f = s.regs.f) ∧
  (∀ (i : Instr) (r : R16) (s : State), i.form = .dec16 r →
    ∃ t, Completes i s t 8 ∧ ((readR16 r t).toNat + 1) % 65536 = (readR16 r s).toNat ∧ SameButRegs s t ∧
      t.regs.f = s.regs.f)

/-- ADD HL,r16 (addHlBc, addHlDe, addHlHl, addHlSp): the sum modulo 65536, H the carry out of bit 11, C the carry out of
bit 15, N = 0, Z unchanged (42_alu16.md R213, R214). -/
def Obligations.AddHlRuns : Prop :=
  ∀ (i : Instr) (r : R16) (s : State), i.form = .addHl r →
    ∃ t, Completes i s t 8 ∧ SameButRegs s t ∧
      (getHl t).toNat = ((getHl s).toNat + (readR16 r s).toNat) % 65536 ∧
      FlagsAre t (flagZ s) false
        (decide ((getHl s).toNat % 4096 + (readR16 r s).toNat % 4096 > 0x0FFF))
        (decide ((getHl s).toNat + (readR16 r s).toNat > 0xFFFF))

/-- ADD SP,e8 and LD HL,SP+e8 (addSpE8, ldHlSpE8): SP plus the signed displacement, with the flags of an unsigned add to
SP's low byte (42_alu16.md R215, R216, R217). -/
def Obligations.SpOffsetRuns : Prop :=
  ∀ (i : Instr) (e : Byte) (s : State),
    (i.form = .addSp e →
      ∃ t, Completes i s t 16 ∧ SameButRegs s t ∧ t.regs.sp = BitVec.ofInt 16 (s.regs.sp.toNat + e.toInt) ∧
        FlagsAre t false false (decide (s.regs.sp.toNat % 16 + e.toNat % 16 > 0x0F))
          (decide (s.regs.sp.toNat % 256 + e.toNat > 0xFF))) ∧
    (i.form = .ldHlSp e →
      ∃ t, Completes i s t 12 ∧ SameButRegs s t ∧ getHl t = BitVec.ofInt 16 (s.regs.sp.toNat + e.toInt) ∧
        t.regs.sp = s.regs.sp ∧
        FlagsAre t false false (decide (s.regs.sp.toNat % 16 + e.toNat % 16 > 0x0F))
          (decide (s.regs.sp.toNat % 256 + e.toNat > 0xFF)))

/-! ### Rotates, shifts, bits -/

/-- RLCA, RRCA, RLA, RRA (rlca, rrca, rla, rra): A rotated, C the bit that left it, N = H = 0, and Z as the parameter
`ACC_ROTATE_Z` says (43_rotate_shift_bit.md R230 to R234). -/
def Obligations.AccumulatorRotatesRun : Prop :=
  ∀ (i : Instr) (k : RotOp) (s : State), i.form = .rotA k →
    ∃ t out, Completes i s t 4 ∧ SameButRegs s t ∧ RotateOutcome k s.regs.a (flagC s) t.regs.a out ∧
      FlagsAre t (decide (s.params.accRotateZ = .unchanged) && flagZ s) false false out

/-- The eight CB-prefixed rotates and shifts (64 constructors rlcB to srlA): the operand's new value and the bit that
goes to C, Z by the result, N = H = 0 (43_rotate_shift_bit.md R235 to R243). -/
def Obligations.RotatesAndShiftsRun : Prop :=
  ∀ (i : Instr) (k : RotOp) (o : R8) (s : State), i.form = .rot k o →
    ∃ t res out, Completes i s t (if o = .atHl then 16 else 8) ∧
      RotateOutcome k (readR8 o s).1 (flagC s) res out ∧ OperandWritten o res (readR8 o s).2 t ∧
      FlagsAre t (decide (res = 0)) false false out

/-- BIT b,r8 (64 constructors bit0B to bit7A): Z is the complement of the bit, N = 0, H = 1, C unchanged, and nothing is
written back (43_rotate_shift_bit.md R244). -/
def Obligations.BitTestRuns : Prop :=
  ∀ (i : Instr) (n : BitVec 3) (o : R8) (s : State), i.form = .bit n o →
    ∃ t, Completes i s t (if o = .atHl then 12 else 8) ∧ SameButRegs (readR8 o s).2 t ∧
      (∀ r, regOf t r = regOf s r) ∧
      FlagsAre t (!(readR8 o s).1.getLsbD n.toNat) false true (flagC s)

/-- RES b,r8 and SET b,r8 (128 constructors res0B to res7A, set0B to set7A): bit b cleared or set, every other bit as it
was, no flag changes (43_rotate_shift_bit.md R245, R246). -/
def Obligations.ResAndSetRun : Prop :=
  (∀ (i : Instr) (n : BitVec 3) (o : R8) (s : State), i.form = .res n o →
    ∃ t res, Completes i s t (if o = .atHl then 16 else 8) ∧ OperandWritten o res (readR8 o s).2 t ∧
      t.regs.f = s.regs.f ∧
      ∀ k, k < 8 → res.getLsbD k = (decide (k ≠ n.toNat) && (readR8 o s).1.getLsbD k)) ∧
  (∀ (i : Instr) (n : BitVec 3) (o : R8) (s : State), i.form = .set n o →
    ∃ t res, Completes i s t (if o = .atHl then 16 else 8) ∧ OperandWritten o res (readR8 o s).2 t ∧
      t.regs.f = s.regs.f ∧
      ∀ k, k < 8 → res.getLsbD k = (decide (k = n.toNat) || (readR8 o s).1.getLsbD k))

/-- PREFIX CB (prefixCb): executing the escape with a secondary byte is executing the secondary instruction of that
byte, which runs to a next state (45_system.md R306). -/
def Obligations.PrefixRunsSecondary : Prop :=
  ∀ (cb : Byte) (s : State),
    ∃ t, exec (.prefixCb cb) s = .next t ∧ exec (secondaryInstr cb) s = .next t

/-! ### Control transfer -/

/-- JP, JP cc, JP HL, JR, JR cc (jpA16, jpNzA16, jpZA16, jpNcA16, jpCA16, jpHl, jrE8, jrNzE8, jrZE8, jrNcE8, jrCE8): where
PC goes, taken and not taken, with the cost of each (44_control.md R270 to R275; the
costs by 70_reset_and_hazards.md R397, log entry 7). -/
def Obligations.JumpsRun : Prop :=
  ∀ (i : Instr) (s : State),
    let memT := s.params.memT
    let mT := s.params.mT
    (∀ a, i.form = .jp a → exec i s = .next { setPc s a with cost := 3 * memT + mT }) ∧
    (∀ cc a, i.form = .jpCc cc a →
      exec i s = .next
        (if condHolds cc s then { setPc s a with cost := 3 * memT + mT } else { s with cost := 3 * memT })) ∧
    (i.form = .jpHl → exec i s = .next { setPc s (getHl s) with cost := memT }) ∧
    (∀ e, i.form = .jr e →
      exec i s = .next { setPc s (BitVec.ofInt 16 (s.regs.pc.toNat + e.toInt)) with cost := 2 * memT + mT }) ∧
    (∀ cc e, i.form = .jrCc cc e →
      exec i s = .next
        (if condHolds cc s then
          { setPc s (BitVec.ofInt 16 (s.regs.pc.toNat + e.toInt)) with cost := 2 * memT + mT }
         else { s with cost := 2 * memT })) ∧
    (condHolds .nz s = !flagZ s ∧ condHolds .z s = flagZ s ∧ condHolds .nc s = !flagC s ∧
      condHolds .c s = flagC s)

/-- CALL, CALL cc, RST (callA16, callNzA16, callZA16, callNcA16, callCA16, rst00 to rst38): the return address on the
stack, low byte lower, SP down by 2, PC at the target; an untaken call changes nothing but the cost (44_control.md
R276, R277, R281; 40_load_store.md R150; the untaken cost by 70_reset_and_hazards.md R397, log entry 7). -/
def Obligations.CallsRun : Prop :=
  ∀ (i : Instr) (s : State),
    let pushed :=
      writeByte (writeByte s (s.regs.sp - 2) (s.regs.pc.extractLsb' 0 8)) (s.regs.sp - 1)
        (s.regs.pc.extractLsb' 8 8)
    (∀ a, i.form = .call a →
      ∃ t, Completes i s t 24 ∧ t.regs.pc = a ∧ t.regs.sp = s.regs.sp - 2 ∧ SameButRegs pushed t) ∧
    (∀ cc a, i.form = .callCc cc a → condHolds cc s = true →
      ∃ t, Completes i s t 24 ∧ t.regs.pc = a ∧ t.regs.sp = s.regs.sp - 2 ∧ SameButRegs pushed t) ∧
    (∀ cc a, i.form = .callCc cc a → condHolds cc s = false → exec i s = .next { s with cost := 3 * s.params.memT }) ∧
    (∀ n, i.form = .rst n →
      ∃ t, Completes i s t 16 ∧ t.regs.pc.toNat = n.toNat * 8 ∧ t.regs.sp = s.regs.sp - 2 ∧ SameButRegs pushed t)

/-- RET, RET cc, RETI (ret, retNz, retZ, retNc, retC, reti): PC from the two bytes at SP, SP up by 2; an untaken return
changes nothing but the cost; RETI also sets IME and ends a pending EI (44_control.md R278, R279, R280;
40_load_store.md R151; the untaken cost by 70_reset_and_hazards.md R397, log entry 7). -/
def Obligations.ReturnsRun : Prop :=
  ∀ (i : Instr) (s : State),
    let lo := readByte s s.regs.sp
    let hi := readByte lo.2 (s.regs.sp + 1)
    (i.form = .ret →
      ∃ t, Completes i s t 16 ∧ t.regs.pc = hi.1 ++ lo.1 ∧ t.regs.sp = s.regs.sp + 2 ∧ SameButRegs hi.2 t) ∧
    (∀ cc, i.form = .retCc cc → condHolds cc s = true →
      ∃ t, Completes i s t 20 ∧ t.regs.pc = hi.1 ++ lo.1 ∧ t.regs.sp = s.regs.sp + 2 ∧ SameButRegs hi.2 t) ∧
    (∀ cc, i.form = .retCc cc → condHolds cc s = false → exec i s = .next { s with cost := s.params.memT + s.params.mT }) ∧
    (i.form = .reti →
      ∃ t, Completes i s t 16 ∧ t.regs.pc = hi.1 ++ lo.1 ∧ t.regs.sp = s.regs.sp + 2 ∧
        SameButRegs { hi.2 with engine := { s.engine with ime := true, imeScheduled := false } } t)

/-- A called subroutine that returns at once comes back to the byte after the call, with SP as it was: any of CALL,
taken CALL cc and RST, then any of RET, taken RET cc and RETI, on a stack in writable memory (44_control.md R276 to
R282). -/
def Obligations.CallThenReturnComesBack : Prop :=
  ∀ (i j : Instr) (s : State),
    ((∃ a, i.form = .call a) ∨ (∃ cc a, i.form = .callCc cc a ∧ condHolds cc s = true) ∨ (∃ n, i.form = .rst n)) →
    (j.form = .ret ∨ j.form = .reti ∨ (∃ cc, j.form = .retCc cc ∧ condHolds cc s = true)) →
    Memory.wf s.mem = true → ramAt s (s.regs.sp - 2) = true → ramAt s (s.regs.sp - 1) = true →
    ∃ t u, exec i s = .next t ∧ exec j t = .next u ∧ u.regs.pc = s.regs.pc ∧ u.regs.sp = s.regs.sp

/-! ### System instructions -/

/-- NOP, HALT, DI, EI (nop, halt, di, ei): NOP changes nothing but the cost; HALT halts, or leaves the halt bug, or does
nothing, by IME, the pending mask and the parameter `HALT_BUG`; DI clears IME and a pending EI; EI makes an EI pending
(45_system.md R300, R301, R304, R305; the cost, one byte access, by 70_reset_and_hazards.md R397, log entry 7). -/
def Obligations.NopHaltDiEiRun : Prop :=
  ∀ (i : Instr) (s : State),
    (i.form = .nop → exec i s = .next { s with cost := s.params.memT }) ∧
    (i.form = .halt →
      (s.engine.ime = true ∨ s.irq.ie.extractLsb' 0 5 &&& s.irq.ifl = 0 →
        exec i s = .next { s with engine := { s.engine with halted := true }, cost := s.params.memT }) ∧
      (s.engine.ime = false → s.irq.ie.extractLsb' 0 5 &&& s.irq.ifl ≠ 0 → s.params.haltBug = true →
        exec i s = .next { s with engine := { s.engine with haltBug := true }, cost := s.params.memT }) ∧
      (s.engine.ime = false → s.irq.ie.extractLsb' 0 5 &&& s.irq.ifl ≠ 0 → s.params.haltBug = false →
        exec i s = .next { s with cost := s.params.memT })) ∧
    (i.form = .di →
      exec i s = .next
        { s with engine := { s.engine with ime := false, imeScheduled := false }, cost := s.params.memT }) ∧
    (i.form = .ei → exec i s = .next { s with engine := { s.engine with imeScheduled := true }, cost := s.params.memT })

/-- STOP (stop): refused whatever its second byte, recording the address of the opcode (45_system.md R303,
60_exceptions.md R320). -/
def Obligations.StopIsRefused : Prop :=
  ∀ (ignored : Byte) (s : State), exec (.stop ignored) s = .refused (.stopUnmodelled s.opAddr)

/-- The 11 illegal opcodes (illegalD3 to illegalFD): the record (IllegalOpcode, opcode, address) is appended, the engine
locks, and nothing else changes but the cost (45_system.md R307, 60_exceptions.md R325; the cost, one byte access, by
70_reset_and_hazards.md R397, log entry 7). -/
def Obligations.IllegalOpcodeLocks : Prop :=
  (∀ (i : Instr) (op : Byte) (s : State), i.form = .illegal op →
    exec i s = .next
      { s with
        engine :=
          { s.engine with
            locked := true
            faults := s.engine.faults ++ [{ reason := .illegalOpcode, opcode := op, address := s.opAddr }] }
        cost := s.params.memT }) ∧
  (∀ (op : Byte) (rest : List Byte),
    op ∈ [0xD3, 0xDB, 0xDD, 0xE3, 0xE4, 0xEB, 0xEC, 0xED, 0xF4, 0xFC, 0xFD] →
    ∃ i, decode (op :: rest) = .ok (i, rest) ∧ i.form = .illegal op)

/-! ### The frames: what every instruction leaves alone -/

/-- Every whole instruction that ends in a next state leaves alone every general register, F, SP, PC and the engine's
state, but for those its form writes, which `formRegs`, `formWritesF`, `formWritesSp`, `formWritesPc` and
`formWritesEngine` list (10_state.md R25, R27, R28). Its cost is `MEM_T` for each byte it fetches, reads and writes, and `M_T`
for each internal M-cycle (00_scope.md R6, R10, R12; 20_memory.md R65; 70_reset_and_hazards.md R397); that a fetched byte
counts as an access also where `MEM_T` and `M_T` differ is log entry 7. -/
def Obligations.RegisterFrame : Prop :=
  ∀ (i : Instr) (s t : State), i.wellFormed = true → exec i s = .next t →
    (∀ r, r ∉ formRegs i.form → regOf t r = regOf s r) ∧
    (formWritesF i.form = false → t.regs.f = s.regs.f) ∧
    (formWritesSp i.form = false → t.regs.sp = s.regs.sp) ∧
    (formWritesPc i.form = false → t.regs.pc = s.regs.pc) ∧
    (formWritesEngine i.form = false → t.engine = s.engine) ∧
    t.cost =
      ((encode i).length + formData s i.form) * s.params.memT + formInternal s i.form * s.params.mT

/-- Every whole instruction that ends in a next state leaves alone every byte outside the addresses it stores to:
for the addresses `storeTargets` computes from the state before, in the words of the instruction's own rule, a byte
none of them reaches reads as before, but where `EXT_IO` or a cartridge other than the default one answers. A register of
the timer, IF, IE and the boot latch change only by a store to their own address, and the parameters, the overlay image
and the video mode never (20_memory.md R67, R68, R77). That a byte of the default cartridge stays under a store to the
cartridge is that cartridge's rule (R75), and the default cartridge stays the default one: the model's form of the
parameter `CART` is log entry 4. -/
def Obligations.MemoryFrame : Prop :=
  ∀ (i : Instr) (s t : State), i.wellFormed = true → exec i s = .next t →
    (∀ a : Addr, answeredOutside s a = false → (∀ x ∈ storeTargets s i.form, reaches x a = false) →
      peek t a = peek s a) ∧
    ((∀ x ∈ storeTargets s i.form, x ≠ 0xFF04 ∧ x ≠ 0xFF05 ∧ x ≠ 0xFF06 ∧ x ≠ 0xFF07) → t.timer = s.timer) ∧
    ((∀ x ∈ storeTargets s i.form, x ≠ 0xFF0F ∧ x ≠ 0xFFFF) → t.irq = s.irq) ∧
    ((∀ x ∈ storeTargets s i.form, x ≠ 0xFF50) → t.bootDisabled = s.bootDisabled) ∧
    (storeTargets s i.form = [] → t.mem = s.mem ∧ t.collab.sent = s.collab.sent) ∧
    (s.collab.cart = .romOnly → t.collab.cart = .romOnly) ∧
    t.bootRom = s.bootRom ∧ t.params = s.params ∧ t.totalCycles = s.totalCycles ∧ t.opAddr = s.opAddr ∧
    t.collab.videoMode = s.collab.videoMode ∧ t.collab.inputs = s.collab.inputs

/-! ### Fetch, the sequencer, interrupts, the timer -/

/-- A step runs the decoded instruction: when the step executes and the bytes it fetches decode to `i`, the step is
`exec i` in the state after the fetch, then the EI delay, then the advances (60_exceptions.md R350, R351). Where no byte
at PC is a collaborator's own answer and no halt bug is pending, those bytes are the ones at PC and that state has PC past
the instruction; `FetchFollowsPc` says what the fetch does otherwise. -/
def Obligations.StepRunsDecoded : Prop :=
  ∀ (s : State) (i : Instr) (rest : List Byte),
    let s0 := atStepStart s
    let pc := s.regs.pc
    let f := fetchInstr { s0 with engine := { s0.engine with halted := false } }
    s.engine.refused = false → cpuPart s0 = .execute →
    (decode f.1 = .ok (i, rest) →
      step s =
        match exec i f.2 with
        | .next t => .next (advanceAll (currentInput s) (applyEiDelay s.engine.imeScheduled t))
        | .fault r => .fault r
        | .refused r => .refused r) ∧
    (s.engine.haltBug = false →
      (∀ k, k < instrLength (peek s0 pc) → answeredOutside s0 (pc + BitVec.ofNat 16 k) = false) →
      decode [peek s0 pc, peek s0 (pc + 1), peek s0 (pc + 2)] = .ok (i, rest) →
      step s =
        match exec i
            { s0 with
              regs := { s0.regs with pc := pc + BitVec.ofNat 16 (3 - rest.length) }
              engine := { s0.engine with halted := false }
              opAddr := pc } with
        | .next t => .next (advanceAll (currentInput s) (applyEiDelay s.engine.imeScheduled t))
        | .fault r => .fault r
        | .refused r => .refused r)

/-- The fetch: the opcode at PC, then the operand bytes at the addresses after it; with the halt bug pending the
opcode fetch does not advance PC, so the byte at PC is fetched again as the next byte, and the bug ends
(60_exceptions.md R351, 45_system.md R301). Where a collaborator's own answer is among the bytes, as many are fetched, the
first is still the one at PC, and PC, the engine and memory are as said; the bytes are then the collaborator's. -/
def Obligations.FetchFollowsPc : Prop :=
  ∀ (s : State),
    let pc := s.regs.pc
    let d : Addr := if s.engine.haltBug then 0 else 1
    let n := instrLength (peek s pc)
    ((∀ k, k < n → answeredOutside s (pc + BitVec.ofNat 16 k) = false) →
      (fetchInstr s).1 =
        peek s pc :: (List.range (n - 1)).map (fun k => peek s (pc + d + BitVec.ofNat 16 k)) ∧
      (fetchInstr s).2 =
        { s with
          regs := { s.regs with pc := pc + d + BitVec.ofNat 16 (n - 1) }
          engine := { s.engine with haltBug := false }
          opAddr := pc }) ∧
    (fetchInstr s).1.length = n ∧ (fetchInstr s).1.head? = some (peek s pc) ∧
    (fetchInstr s).2.regs = { s.regs with pc := pc + d + BitVec.ofNat 16 (n - 1) } ∧
    (fetchInstr s).2.engine = { s.engine with haltBug := false } ∧ (fetchInstr s).2.opAddr = pc ∧
    (fetchInstr s).2.mem = s.mem ∧ (fetchInstr s).2.irq = s.irq ∧ (fetchInstr s).2.timer = s.timer

/-- Interrupt service: with IME set and a source pending, an unlocked step executes no opcode; the lowest pending source
`n` is served, its request bit alone is cleared before the push, IME, the pending EI and the halt end, the return
address (one less when the halt bug is pending) is pushed, PC is the vector, and the cost is that of two byte accesses and
three M-cycles (60_exceptions.md R331 to R336). -/
def Obligations.InterruptServiceRuns : Prop :=
  ∀ (s : State) (n : Nat),
    let s0 := atStepStart s
    let ret := if s.engine.haltBug then s.regs.pc - 1 else s.regs.pc
    s.engine.refused = false → s.engine.locked = false → s.engine.ime = true → n < 5 →
    (∀ k, k < n → (s0.irq.ie.getLsbD k && s0.irq.ifl.getLsbD k) = false) →
    s0.irq.ie.getLsbD n = true → s0.irq.ifl.getLsbD n = true →
    ∃ t ifl, step s = .next (advanceAll (currentInput s) t) ∧
      t.regs.pc.toNat = 0x0040 + 8 * n ∧ t.regs.sp = s.regs.sp - 2 ∧ t.cost = 2 * s.params.memT + 3 * s.params.mT ∧
      (∀ r, regOf t r = regOf s r) ∧ t.regs.f = s.regs.f ∧
      (∀ k, k < 5 → ifl.getLsbD k = (decide (k ≠ n) && s0.irq.ifl.getLsbD k)) ∧
      SameButRegs
        (writeByte
          (writeByte
            { s0 with
              irq := { s0.irq with ifl := ifl }
              engine :=
                { s0.engine with ime := false, imeScheduled := false, halted := false, haltBug := false } }
            (s.regs.sp - 2) (ret.extractLsb' 0 8))
          (s.regs.sp - 1) (ret.extractLsb' 8 8)) t

/-- A serviced interrupt whose handler is RETI alone comes back: the return address is the one service pushed, SP is
as it was and IME is set, on a stack in writable memory (60_exceptions.md R334, R336, R337; 44_control.md R280). -/
def Obligations.ServiceThenRetiComesBack : Prop :=
  ∀ (s : State) (n : Fin 5), Memory.wf s.mem = true →
    ramAt s (s.regs.sp - 2) = true → ramAt s (s.regs.sp - 1) = true →
    ∃ u, exec .reti (serviceSource s n) = .next u ∧
      u.regs.pc = (if s.engine.haltBug then s.regs.pc - 1 else s.regs.pc) ∧ u.regs.sp = s.regs.sp ∧
      u.engine.ime = true

/-- Idle steps: a locked step, and a halted one with nothing pending, execute nothing: the registers, the engine and
IE stay, the step costs one M-cycle, the total grows by it, and the advances still run (60_exceptions.md R325, R350;
45_system.md R301, R307). That the 4 T of such a step are `M_T` is log entry 7. -/
def Obligations.IdleSteps : Prop :=
  ∀ (s : State),
    let s0 := atStepStart s
    s.engine.refused = false →
    (s.engine.locked = true ∨
      (s.engine.halted = true ∧ s0.irq.ie.extractLsb' 0 5 &&& s0.irq.ifl = 0)) →
    ∃ t, step s = .next t ∧ t = advanceAll (currentInput s) { s0 with cost := s.params.mT } ∧
      t.regs = s.regs ∧ t.engine = s.engine ∧ t.irq.ie = s.irq.ie ∧ t.cost = s.params.mT ∧
      t.totalCycles = s.totalCycles + s.params.mT

/-- Only EI (one instruction late), DI, RETI and interrupt service change IME: what executing one instruction does to
IME and the pending EI, by the form of the instruction fetched (10_state.md R28, R29; 45_system.md R304, R305;
44_control.md R280; 60_exceptions.md R351). -/
def Obligations.ImeFollowsEiDiReti : Prop :=
  ∀ (s t : State) (i : Instr) (rest : List Byte),
    executeOne s = .next t → decode (fetchInstr s).1 = .ok (i, rest) →
    (i.form = .di → t.engine.ime = false ∧ t.engine.imeScheduled = false) ∧
    (i.form = .reti → t.engine.ime = true ∧ t.engine.imeScheduled = false) ∧
    ((∃ op, i.form = .illegal op) →
      t.engine.ime = s.engine.ime ∧ t.engine.imeScheduled = s.engine.imeScheduled) ∧
    (s.engine.locked = false → i.form = .ei →
      t.engine.ime = (s.engine.ime || s.engine.imeScheduled) ∧
      t.engine.imeScheduled = !s.engine.imeScheduled) ∧
    (s.engine.locked = false → i.form ≠ .di → i.form ≠ .reti → i.form ≠ .ei → (∀ op, i.form ≠ .illegal op) →
      t.engine.ime = (s.engine.ime || s.engine.imeScheduled) ∧ t.engine.imeScheduled = false)

/-- The timer advance in closed form: the counter always grows by `n`; a stopped sub-timer keeps its accumulator and
TIMA; a running one counts the whole periods in accumulator plus `n`, keeps the remainder, adds them to TIMA, and where
TIMA passes 0xFF reloads from TMA each time and requests the Timer interrupt (60_exceptions.md R340, R341, R342). -/
def Obligations.TimerClosedForm : Prop :=
  ∀ (n : Nat) (s : State),
    let t := timerAdvance n s
    let p := [1024, 16, 64, 256].getD (s.timer.tac.toNat % 4) 0
    let q := (s.timer.acc + n) / p
    t.timer.sysCounter.toNat = (s.timer.sysCounter.toNat + n) % 65536 ∧
    t.timer.tma = s.timer.tma ∧ t.timer.tac = s.timer.tac ∧ t.irq.ie = s.irq.ie ∧
    (s.timer.tac.getLsbD 2 = false →
      t.timer.acc = s.timer.acc ∧ t.timer.tima = s.timer.tima ∧ t.irq.ifl = s.irq.ifl) ∧
    (s.timer.tac.getLsbD 2 = true →
      t.timer.acc = (s.timer.acc + n) % p ∧
      (s.timer.tima.toNat + q ≤ 255 →
        t.timer.tima.toNat = s.timer.tima.toNat + q ∧ t.irq.ifl = s.irq.ifl) ∧
      (255 < s.timer.tima.toNat + q →
        t.timer.tima.toNat =
          s.timer.tma.toNat + (s.timer.tima.toNat + q - 256) % (256 - s.timer.tma.toNat) ∧
        t.irq.ifl = s.irq.ifl ||| 0b00100))

/-- The footprint of the advances: whatever the collaborators do in a step, registers, engine, IE, the boot latch, the
overlay and the parameters stay, no request bit is cleared, the Timer's request comes from the timer alone, memory changes
in OAM alone, and the total grows by the step's cost (60_exceptions.md R350, R360 to R365; 10_state.md R35). That DMA
requests any source but the Timer is the reading of log entry 27; that the default cartridge stays the default one is the
model's form of the parameter `CART`, log entry 4. -/
def Obligations.AdvanceFootprint : Prop :=
  ∀ (x : StepInput) (s : State),
    let t := advanceAll x s
    t.regs = s.regs ∧ t.engine = s.engine ∧ t.irq.ie = s.irq.ie ∧ t.bootDisabled = s.bootDisabled ∧
    t.bootRom = s.bootRom ∧ t.params = s.params ∧ t.cost = s.cost ∧ t.opAddr = s.opAddr ∧
    t.totalCycles = s.totalCycles + s.cost ∧ t.collab.inputs = s.collab.inputs.tail ∧
    (∀ k, s.irq.ifl.getLsbD k = true → t.irq.ifl.getLsbD k = true) ∧
    t.irq.ifl.getLsbD 2 = (timerAdvance s.cost s).irq.ifl.getLsbD 2 ∧
    (s.collab.cart = .romOnly → t.collab.cart = .romOnly) ∧ t.collab.sent = s.collab.sent ∧
    (∀ n, n < 0xFE00 ∨ 0xFE9F < n → Memory.read t.mem n = Memory.read s.mem n) ∧
    (x = quietInput → t.mem = s.mem ∧ t.collab.videoMode = s.collab.videoMode ∧
      t.timer = (timerAdvance s.cost s).timer ∧ t.irq = (timerAdvance s.cost s).irq)

/-! ### Whole-machine rules -/

/-- The invariant holds at power-on reset. The values reset gives registers and memory, which the spec leaves
unspecified, are the model's own (log entries 1 to 5). -/
def Obligations.ResetHasInvariant : Prop := State.reset.Inv

/-- Every step keeps the invariant: memory canonical and backed, the low nibble of F zero, the engine locked exactly
when a fault is recorded, never halted with the halt bug pending; and after it a running sub-timer's accumulator is
below its period (10_state.md R22, R32, R41; 60_exceptions.md R325). -/
def Obligations.StepKeepsInvariant : Prop :=
  ∀ s t : State, s.Inv → step s = .next t →
    t.Inv ∧ (timerEnabled t.timer.tac = true → t.timer.acc < timerPeriod t.timer.tac)

/-- No step faults, and a step is refused only from a refused state or where it fetches the opcode of STOP
(60_exceptions.md R320, R321, R326; 45_system.md R303; 10_state.md R33). -/
def Obligations.StepStopsOnlyAtStop : Prop :=
  ∀ (s : State),
    (∀ r, step s ≠ .fault r) ∧
    (∀ r, step s = .refused r →
      (r = .alreadyRefused ∧ s.engine.refused = true) ∨
      (r = .stopUnmodelled s.regs.pc ∧ s.engine.locked = false ∧ peek (atStepStart s) s.regs.pc = 0x10))

/-- What no step undoes: the boot latch once set, the lock, the fault records, which are only appended to, the refused
mark and the parameters; and the total of T-cycles grows by the step's cost, which is at least `MEM_T` or `M_T`
(10_state.md R32, R33, R42, R44; 45_system.md R307; the cost in these terms is log entry 7). -/
def Obligations.StepNeverUndoes : Prop :=
  ∀ s t : State, step s = .next t →
    (s.bootDisabled = true → t.bootDisabled = true) ∧
    (s.engine.locked = true → t.engine.locked = true) ∧
    (∃ more, t.engine.faults = s.engine.faults ++ more) ∧
    t.engine.refused = s.engine.refused ∧ t.params = s.params ∧ t.bootRom = s.bootRom ∧
    t.totalCycles = s.totalCycles + t.cost ∧ min s.params.memT s.params.mT ≤ t.cost

/-! ### Reset, construction, boot-skip -/

/-- Power-on: the values 10_state.md R47 gives, at reset and in every constructed device, which holds its generation,
its cartridge, its image and its overlay; construction fails exactly for a newer-only cartridge in an older device
(70_reset_and_hazards.md R380, R381, R388). The model's own choices in it: the registers, SP and RAM are those of
`State.reset`, where R47 leaves them open (log entries 1 to 3); the bytes beyond the given image and overlay read 0x00,
and a header byte the image does not reach counts as 0x00 (log entries 4, 5 and 24). -/
def Obligations.PowerOnState : Prop :=
  ∀ (gen : Config.Gen) (cart : Cart) (boot image : List Byte),
    (gen = .dmg ∧ image.getD 0x0143 0x00 = 0xC0 →
      construct gen cart boot image = .error .newerGenerationOnly) ∧
    (¬(gen = .dmg ∧ image.getD 0x0143 0x00 = 0xC0) →
      ∃ s, construct gen cart boot image = .ok s ∧ s.params.gen = gen ∧ s.collab.cart = cart ∧
        s =
          { State.reset with
            mem := s.mem
            bootRom := s.bootRom
            params := { State.reset.params with gen := gen }
            collab := { State.reset.collab with cart := cart } } ∧
        s.regs.pc = 0x0000 ∧ s.regs.f &&& 0x0F = 0 ∧ s.bootDisabled = false ∧
        s.engine =
          { ime := false, imeScheduled := false, halted := false, haltBug := false, locked := false,
            refused := false, faults := [] } ∧
        s.irq = { ie := 0x00, ifl := 0 } ∧
        s.timer = { sysCounter := 0, acc := 0, tima := 0, tma := 0, tac := 0 } ∧ s.totalCycles = 0 ∧
        (∀ n, n < 0x100 → Memory.read s.bootRom n = boot.getD n 0x00) ∧
        (∀ n, n < 0x8000 → Memory.read s.mem n = image.getD n 0x00) ∧
        (∀ n, 0x8000 ≤ n → Memory.read s.mem n = Memory.read State.reset.mem n))

/-- Boot-skip of the older generation: the registers, the counter and the interrupt and timer registers of
70_reset_and_hazards.md R386, the overlay off, the engine's waiting state cleared, all else as it was (R385). That an
older device with a newer-capable cartridge takes this row too is the model's choice, log entry 29. -/
def Obligations.BootSkipDmg : Prop :=
  ∀ (s : State), s.params.gen = .dmg → Memory.read s.mem 0x0143 ≠ 0xC0 →
    ∃ t, bootSkip s = some t ∧
      getAf t = 0x01B0 ∧ getBc t = 0x0013 ∧ getDe t = 0x00D8 ∧ getHl t = 0x014D ∧ t.regs.sp = 0xFFFE ∧
      t.regs.pc = 0x0100 ∧ t.timer.sysCounter = 0xABCC ∧ (readByte t 0xFF04).1 = 0xAB ∧
      t.irq.ifl = 0x01 ∧ (readByte t 0xFF0F).1 = 0xE1 ∧ t.irq.ie = 0x00 ∧ t.timer.tima = 0x00 ∧
      t.timer.tma = 0x00 ∧ t.timer.tac = 0 ∧ (readByte t 0xFF07).1 = 0xF8 ∧ t.bootDisabled = true ∧
      t.timer.acc = 0 ∧
      t.engine =
        { s.engine with ime := false, imeScheduled := false, halted := false, haltBug := false } ∧
      t.totalCycles = s.totalCycles ∧ t.mem = s.mem ∧ t.bootRom = s.bootRom ∧ t.collab = s.collab ∧
      t.params = s.params

/-- The boot-skip is keyed by the generation of the device and the compatibility of its cartridge image
(70_reset_and_hazards.md R385, R387; 20_memory.md R76): an older device takes the older row, a newer one the row `CGB` for
a newer-generation-capable cartridge and `CGB_COMPAT` for any other, and the pair of an older device and a newer-only
cartridge does not exist. That an older device takes the older row with a newer-capable cartridge too, a pair R385 does
not name, is the model's choice, log entry 29. Which header bytes besides 0xC0 declare a capable cartridge is open, log entry 28, and so are
the two newer rows, log entry 19. -/
def Obligations.BootSkipKey : Prop :=
  ∀ (s : State),
    let header := Memory.read s.mem 0x0143
    (s.params.gen = .dmg → header = 0xC0 → bootSkip s = none) ∧
    (s.params.gen = .dmg → header ≠ 0xC0 → bootSkip s = some (loadPostBoot postBootDmg s)) ∧
    (s.params.gen = .cgb →
      bootSkip s =
        some (loadPostBoot
          (if header = 0xC0 ∨ Config.newerCapable header = true then Config.postBootCgb
           else Config.postBootCgbCompat) s)) ∧
    (∀ p : Config.PostBoot,
      let t := loadPostBoot p s
      getAf t = p.af &&& 0xFFF0 ∧ getBc t = p.bc ∧ getDe t = p.de ∧ getHl t = p.hl ∧ t.regs.sp = p.sp ∧
        t.regs.pc = 0x0100 ∧ t.irq = { ie := p.ie, ifl := p.ifl } ∧
        t.timer = { sysCounter := p.sysCounter, acc := 0, tima := p.tima, tma := p.tma, tac := p.tac } ∧
        t.bootDisabled = true ∧
        t.engine =
          { s.engine with ime := false, imeScheduled := false, halted := false, haltBug := false } ∧
        t.mem = s.mem ∧ t.bootRom = s.bootRom ∧ t.collab = s.collab ∧ t.params = s.params ∧
        t.totalCycles = s.totalCycles)
end

