-- ==== Sys2Proof/Laws/Decode.lean ====
section
/-! SUPPORT. The laws of the decoder: how many bytes an instruction takes, that bytes after it do not matter, and the
form of a secondary instruction by its fields. -/

namespace Sys2Proof

/-- A 16-bit immediate is its two bytes (30_encoding.md R106). -/
theorem imm16_bytes (w : Word) : imm16 (immLo w) (immHi w) = w := by
  have := w.isLt
  apply BitVec.eq_of_toNat_eq
  simp only [imm16, immLo, immHi, BitVec.toNat_append, BitVec.extractLsb'_toNat,
    Nat.shiftRight_eq_div_pow]
  rw [← Nat.shiftLeft_add_eq_or_of_lt (by omega), Nat.shiftLeft_eq]
  omega

/-- An instruction is 1, 2 or 3 bytes long (30_encoding.md R101). -/
theorem instrLength_range (op : Byte) : 1 ≤ instrLength op ∧ instrLength op ≤ 3 := by
  unfold instrLength
  split <;> exact ⟨by decide, by decide⟩

/-- A decoded instruction takes as many bytes as its first byte says, and the rest follow it (30_encoding.md R116). -/
theorem decode_rest {op : Byte} {rest r : List Byte} {i : Instr} (h : decode (op :: rest) = .ok (i, r)) :
    rest.length + 1 = instrLength op + r.length ∧ r = rest.drop (instrLength op - 1) := by
  unfold instrLength
  simp only [decode] at h
  cases hc : primaryCell op <;> simp only [hc] at h ⊢
  case one i' =>
    cases h
    exact ⟨by omega, rfl⟩
  case two k =>
    rcases rest with _ | ⟨b2, rest⟩ <;> cases h
    exact ⟨by simp only [List.length_cons]; omega, rfl⟩
  case three k =>
    rcases rest with _ | ⟨b2, _ | ⟨b3, rest⟩⟩ <;> cases h
    exact ⟨by simp only [List.length_cons]; omega, rfl⟩
  case escape =>
    rcases rest with _ | ⟨b2, rest⟩ <;> cases h
    exact ⟨by simp only [List.length_cons]; omega, rfl⟩

/-- As many bytes as the first one asks for decode, with nothing left (30_encoding.md R116). -/
theorem decode_exact {op : Byte} {rest : List Byte} (h : rest.length + 1 = instrLength op) :
    ∃ i, decode (op :: rest) = .ok (i, []) := by
  unfold instrLength at h
  simp only [decode]
  cases hc : primaryCell op <;> simp only [hc] at h ⊢
  case one i =>
    rcases rest with _ | ⟨_, _⟩
    · exact ⟨_, rfl⟩
    · simp at h
  case two k =>
    rcases rest with _ | ⟨b2, _ | ⟨_, _⟩⟩
    · simp at h
    · exact ⟨_, rfl⟩
    · simp at h
  case three k =>
    rcases rest with _ | ⟨b2, _ | ⟨b3, _ | ⟨_, _⟩⟩⟩
    · simp at h
    · simp at h
    · exact ⟨_, rfl⟩
    · simp at h
  case escape =>
    rcases rest with _ | ⟨b2, _ | ⟨_, _⟩⟩
    · simp at h
    · exact ⟨_, rfl⟩
    · simp at h

/-- Bytes after an instruction do not change what it decodes to. -/
theorem decode_append {bs r : List Byte} {i : Instr} (h : decode bs = .ok (i, r)) (more : List Byte) :
    decode (bs ++ more) = .ok (i, r ++ more) := by
  rcases bs with _ | ⟨op, rest⟩
  · cases h
  simp only [List.cons_append, decode] at h ⊢
  cases hc : primaryCell op <;> simp only [hc] at h ⊢
  case one i' =>
    cases h
    rfl
  case two k =>
    rcases rest with _ | ⟨b2, rest⟩ <;> cases h
    rfl
  case three k =>
    rcases rest with _ | ⟨b2, _ | ⟨b3, rest⟩⟩ <;> cases h
    rfl
  case escape =>
    rcases rest with _ | ⟨b2, rest⟩ <;> cases h
    rfl

namespace Machine

/-- The form of a secondary instruction by the fields of its byte (30_encoding.md R112). -/
def secondaryForm (cb : Byte) : Form :=
  match (cb.extractLsb' 6 2).toNat with
  | 0 => .rot (rotOfField (cb.extractLsb' 3 3)) (r8OfField (cb.extractLsb' 0 3))
  | 1 => .bit (cb.extractLsb' 3 3) (r8OfField (cb.extractLsb' 0 3))
  | 2 => .res (cb.extractLsb' 3 3) (r8OfField (cb.extractLsb' 0 3))
  | _ => .set (cb.extractLsb' 3 3) (r8OfField (cb.extractLsb' 0 3))

/-- The map of secondary instructions and the fields agree, for every byte (30_encoding.md R112, R114). -/
theorem secondaryInstr_form : ∀ cb : Byte, (secondaryInstr cb).form = secondaryForm cb := by
  decide +kernel

end Machine

end Sys2Proof
end

