-- ==== Sys2Proof/Laws/Forms.lean ====
section
/-! SUPPORT. What `exec` does, by the form of the instruction: every meaning is the shared operation of its form. A
proof about an instruction goes through `exec_eq_runForm` and never through the 512 arms. -/

namespace Sys2Proof.Machine

/-- The shared operation of a form that has an effect; a STOP has none and its state stands unchanged here. -/
def formEffect (f : Form) (s : State) : State :=
  match f with
  | .ld dst src => loadR8R8 dst src s
  | .ldImm dst v => loadR8Imm dst v s
  | .ldA m => loadAMem m s
  | .stA m => storeAMem m s
  | .ldAbs a => loadAAt a 4 s
  | .stAbs a => storeAAt a 4 s
  | .ldh n => loadAAt (highAddr n) 3 s
  | .sth n => storeAAt (highAddr n) 3 s
  | .ldC => loadAAt (highAddr s.regs.c) 2 s
  | .stC => storeAAt (highAddr s.regs.c) 2 s
  | .ld16 r v => loadR16 r v s
  | .stSp a => storeSp a s
  | .ldSpHl => ldSpFromHl s
  | .pop r => popStk r s
  | .push r => pushStk r s
  | .alu op src => aluR8 op src s
  | .aluImm op v => aluImm op v s
  | .inc8 dst => incR8 dst s
  | .dec8 dst => decR8 dst s
  | .daa => daaA s
  | .cpl => cplA s
  | .scf => scfF s
  | .ccf => ccfF s
  | .inc16 r => incR16 r s
  | .dec16 r => decR16 r s
  | .addHl r => addHlR16 r s
  | .addSp e => addSpImm e s
  | .ldHlSp e => ldHlSpE e s
  | .rotA k => rotateA k s
  | .rot k o => rotateR8 k o s
  | .bit b o => bitTestR8 b o s
  | .res b o => bitResR8 b o s
  | .set b o => bitSetR8 b o s
  | .jp a => jumpAbs a s
  | .jpCc cc a => jumpAbsCc cc a s
  | .jpHl => jumpHl s
  | .jr e => jumpRel e s
  | .jrCc cc e => jumpRelCc cc e s
  | .call a => callAbs a s
  | .callCc cc a => callAbsCc cc a s
  | .ret => returnPlain s
  | .retCc cc => returnCc cc s
  | .reti => returnEnable s
  | .rst t => restart t s
  | .nop => noOperation s
  | .halt => haltEngine s
  | .stop _ => s
  | .di => disableInterrupts s
  | .ei => enableInterrupts s
  | .prefixCb cb => prefixCb cb s
  | .illegal op => illegalOpcode op s

/-- A form that is STOP's (45_system.md R303). -/
def isStop : Form → Bool
  | .stop _ => true
  | _ => false

/-- What an instruction of a form ends in. -/
def runForm (f : Form) (s : State) : Host.Outcome State Fault Refusal :=
  if isStop f then .refused (.stopUnmodelled s.opAddr) else .next (formEffect f s)

/-- Every instruction is the shared operation of its form. -/
theorem exec_eq_runForm (i : Instr) (s : State) : exec i s = runForm i.form s := by
  cases i <;> rfl

/-- An instruction that is not STOP ends in a next state. -/
theorem exec_of_form {i : Instr} {f : Form} (h : i.form = f) (hs : isStop f = false) (s : State) :
    exec i s = .next (formEffect f s) := by
  rw [exec_eq_runForm, h, runForm, if_neg (by simp [hs])]

/-- A STOP is refused. -/
theorem exec_stop {i : Instr} {v : Byte} (h : i.form = .stop v) (s : State) :
    exec i s = .refused (.stopUnmodelled s.opAddr) := by
  rw [exec_eq_runForm, h]; rfl

/-- Everything `exec` can do: a next state by the form's operation, or STOP's refusal. -/
theorem exec_cases (i : Instr) (s : State) :
    (isStop i.form = false ∧ exec i s = .next (formEffect i.form s)) ∨
      (isStop i.form = true ∧ exec i s = .refused (.stopUnmodelled s.opAddr)) := by
  rw [exec_eq_runForm, runForm]
  cases isStop i.form <;> simp

end Sys2Proof.Machine
end

