-- ==== Sys2Proof/Laws/Memory.lean ====
section
/-! SUPPORT. The laws of memory as a canonical list of cells: a read after a write, and that every memory operation
keeps the canonical form. -/

namespace Sys2Proof.Machine

theorem memory_wfFrom_mono {m : List Host.Cell} {n k : Nat} (h : k ≤ n) (hm : Memory.wfFrom n m = true) :
    Memory.wfFrom k m = true := by
  cases m with
  | nil => rfl
  | cons c r =>
    obtain ⟨a, w⟩ := c
    simp only [Memory.wfFrom, Bool.and_eq_true, decide_eq_true_eq] at hm ⊢
    exact ⟨⟨Nat.le_trans h hm.1.1, hm.1.2⟩, hm.2⟩

/-- A key below the start of a canonical list is unlisted. -/
theorem memory_read_below {m : List Host.Cell} {n k : Nat} (h : Memory.wfFrom k m = true) (hn : n < k) :
    Memory.read m n = Memory.unlisted := by
  induction m generalizing k with
  | nil => rfl
  | cons c r ih =>
    obtain ⟨a, w⟩ := c
    simp only [Memory.wfFrom, Bool.and_eq_true, decide_eq_true_eq] at h
    rw [Memory.read, if_neg (by omega)]
    exact ih h.2 (by omega)

/-- A read after a write to the same key gives the byte written, in a canonical memory. -/
theorem memory_read_write_same {m : List Host.Cell} {k : Nat} (hm : Memory.wfFrom k m = true) (n : Nat) (v : Byte) :
    Memory.read (Memory.write m n v) n = v := by
  induction m generalizing k with
  | nil =>
    by_cases hv : v = Memory.unlisted <;> simp [Memory.write, Memory.read, hv]
  | cons c r ih =>
    obtain ⟨a, w⟩ := c
    simp only [Memory.wfFrom, Bool.and_eq_true, decide_eq_true_eq] at hm
    by_cases h1 : a < n
    · rw [Memory.write, if_pos h1, Memory.read, if_neg (by omega)]
      exact ih hm.2
    · rw [Memory.write, if_neg h1]
      by_cases h2 : a = n
      · rw [if_pos h2]
        by_cases hv : v = Memory.unlisted
        · rw [if_pos hv, hv]
          exact memory_read_below hm.2 (by omega)
        · rw [if_neg hv, Memory.read, if_pos rfl]
      · rw [if_neg h2]
        by_cases hv : v = Memory.unlisted
        · rw [if_pos hv, hv, Memory.read, if_neg h2]
          exact memory_read_below hm.2 (by omega)
        · rw [if_neg hv, Memory.read, if_pos rfl]

/-- A write leaves every other key alone. -/
theorem memory_read_write_other (m : List Host.Cell) {n k : Nat} (h : n ≠ k) (v : Byte) :
    Memory.read (Memory.write m n v) k = Memory.read m k := by
  induction m with
  | nil =>
    by_cases hv : v = Memory.unlisted <;> simp [Memory.write, Memory.read, hv, h]
  | cons c r ih =>
    obtain ⟨a, w⟩ := c
    by_cases h1 : a < n
    · rw [Memory.write, if_pos h1, Memory.read, Memory.read, ih]
    · rw [Memory.write, if_neg h1]
      by_cases h2 : a = n
      · rw [if_pos h2]
        by_cases hv : v = Memory.unlisted
        · rw [if_pos hv, Memory.read, if_neg (by omega)]
        · rw [if_neg hv, Memory.read, if_neg h, Memory.read, if_neg (by omega)]
      · rw [if_neg h2]
        by_cases hv : v = Memory.unlisted
        · rw [if_pos hv]
        · rw [if_neg hv, Memory.read, if_neg h]

theorem memory_wfFrom_write {m : List Host.Cell} {k n : Nat} (hm : Memory.wfFrom k m = true) (hn : k ≤ n) (v : Byte) :
    Memory.wfFrom k (Memory.write m n v) = true := by
  induction m generalizing k with
  | nil =>
    by_cases hv : v = Memory.unlisted <;> simp [Memory.write, Memory.wfFrom, hv, hn]
  | cons c r ih =>
    obtain ⟨a, w⟩ := c
    simp only [Memory.wfFrom, Bool.and_eq_true, decide_eq_true_eq] at hm
    obtain ⟨⟨ha, hw⟩, hr⟩ := hm
    by_cases h1 : a < n
    · rw [Memory.write, if_pos h1]
      simp only [Memory.wfFrom, Bool.and_eq_true, decide_eq_true_eq]
      exact ⟨⟨ha, hw⟩, ih hr (by omega)⟩
    · rw [Memory.write, if_neg h1]
      by_cases h2 : a = n
      · rw [if_pos h2]
        by_cases hv : v = Memory.unlisted
        · rw [if_pos hv]
          exact memory_wfFrom_mono (by omega) hr
        · rw [if_neg hv]
          simp only [Memory.wfFrom, Bool.and_eq_true, decide_eq_true_eq]
          exact ⟨⟨hn, hv⟩, h2 ▸ hr⟩
      · rw [if_neg h2]
        by_cases hv : v = Memory.unlisted
        · rw [if_pos hv]
          simp only [Memory.wfFrom, Bool.and_eq_true, decide_eq_true_eq]
          exact ⟨⟨ha, hw⟩, hr⟩
        · rw [if_neg hv]
          simp only [Memory.wfFrom, Bool.and_eq_true, decide_eq_true_eq]
          exact ⟨⟨hn, hv⟩, ⟨by omega, hw⟩, hr⟩

/-- A write keeps the canonical form. -/
theorem memory_wf_write {m : List Host.Cell} (hm : Memory.wf m = true) (n : Nat) (v : Byte) :
    Memory.wf (Memory.write m n v) = true := memory_wfFrom_write hm (Nat.zero_le n) v

/-- Loading a run of bytes keeps the canonical form. -/
theorem memory_wf_load {m : List Host.Cell} (hm : Memory.wf m = true) (n : Nat) (vs : List Byte) :
    Memory.wf (Memory.load m n vs) = true := by
  induction vs generalizing m n with
  | nil => exact hm
  | cons v vs ih => exact ih (memory_wf_write hm n v) (n + 1)

/-- A read after a run of bytes was stored at rising keys: the run's own byte inside it, the old byte outside. -/
theorem memory_read_load (vs : List Byte) {m : List Host.Cell} (hm : Memory.wf m = true) (k n : Nat) :
    Memory.read (Memory.load m k vs) n =
      if k ≤ n ∧ n < k + vs.length then vs.getD (n - k) Memory.unlisted else Memory.read m n := by
  induction vs generalizing m k with
  | nil => rw [if_neg (by simp only [List.length_nil]; omega)]; rfl
  | cons v vs ih =>
    rw [Memory.load, ih (memory_wf_write hm _ _)]
    rcases Nat.lt_trichotomy n k with h | rfl | h
    · rw [if_neg (by omega), if_neg (by omega), memory_read_write_other _ (by omega)]
    · rw [if_neg (by omega), if_pos (by simp), memory_read_write_same hm]; simp
    · rw [show n - k = n - (k + 1) + 1 by omega, List.getD_cons_succ, List.length_cons,
        memory_read_write_other _ (by omega)]
      exact if_congr (by omega) rfl rfl

/-- A key listed after a write was listed before or is the one written. -/
theorem memory_mem_write {m : List Host.Cell} {n k : Nat} {v w : Byte} (h : (k, w) ∈ Memory.write m n v) :
    k = n ∨ ∃ u, (k, u) ∈ m := by
  induction m with
  | nil =>
    by_cases hv : v = Memory.unlisted <;> simp [Memory.write, hv] at h
    exact .inl h.1
  | cons c r ih =>
    obtain ⟨a, x⟩ := c
    rw [Memory.write] at h
    split at h
    · rcases List.mem_cons.1 h with h | h
      · exact .inr ⟨w, by rw [h]; exact List.mem_cons_self⟩
      · exact (ih h).imp_right fun ⟨u, hu⟩ => ⟨u, List.mem_cons_of_mem _ hu⟩
    · split at h
      · split at h
        · exact .inr ⟨w, List.mem_cons_of_mem _ h⟩
        · rcases List.mem_cons.1 h with h | h
          · exact .inl (by cases h; rfl)
          · exact .inr ⟨w, List.mem_cons_of_mem _ h⟩
      · split at h
        · exact .inr ⟨w, h⟩
        · rcases List.mem_cons.1 h with h | h
          · exact .inl (by cases h; rfl)
          · exact .inr ⟨w, h⟩

end Sys2Proof.Machine
end

