-- ==== Sys2Proof/Laws/State.lean ====
section
/-! SUPPORT. One lemma per field per named update of the state, each true by definition: what an update writes, and
that it leaves every other field alone. -/

namespace Sys2Proof.Machine

variable (s : State)

section

variable (v : Addr)

@[simp] theorem setPc_a : (setPc s v).regs.a = s.regs.a := rfl
@[simp] theorem setPc_f : (setPc s v).regs.f = s.regs.f := rfl
@[simp] theorem setPc_b : (setPc s v).regs.b = s.regs.b := rfl
@[simp] theorem setPc_c : (setPc s v).regs.c = s.regs.c := rfl
@[simp] theorem setPc_d : (setPc s v).regs.d = s.regs.d := rfl
@[simp] theorem setPc_e : (setPc s v).regs.e = s.regs.e := rfl
@[simp] theorem setPc_h : (setPc s v).regs.h = s.regs.h := rfl
@[simp] theorem setPc_l : (setPc s v).regs.l = s.regs.l := rfl
@[simp] theorem setPc_sp : (setPc s v).regs.sp = s.regs.sp := rfl
@[simp] theorem setPc_pc : (setPc s v).regs.pc = v := rfl
@[simp] theorem setPc_engine : (setPc s v).engine = s.engine := rfl
@[simp] theorem setPc_irq : (setPc s v).irq = s.irq := rfl
@[simp] theorem setPc_timer : (setPc s v).timer = s.timer := rfl
@[simp] theorem setPc_bootDisabled : (setPc s v).bootDisabled = s.bootDisabled := rfl
@[simp] theorem setPc_mem : (setPc s v).mem = s.mem := rfl
@[simp] theorem setPc_bootRom : (setPc s v).bootRom = s.bootRom := rfl
@[simp] theorem setPc_collab : (setPc s v).collab = s.collab := rfl
@[simp] theorem setPc_params : (setPc s v).params = s.params := rfl
@[simp] theorem setPc_totalCycles : (setPc s v).totalCycles = s.totalCycles := rfl
@[simp] theorem setPc_cost : (setPc s v).cost = s.cost := rfl
@[simp] theorem setPc_opAddr : (setPc s v).opAddr = s.opAddr := rfl

end

section

variable (v : Word)

@[simp] theorem setSp_a : (setSp s v).regs.a = s.regs.a := rfl
@[simp] theorem setSp_f : (setSp s v).regs.f = s.regs.f := rfl
@[simp] theorem setSp_b : (setSp s v).regs.b = s.regs.b := rfl
@[simp] theorem setSp_c : (setSp s v).regs.c = s.regs.c := rfl
@[simp] theorem setSp_d : (setSp s v).regs.d = s.regs.d := rfl
@[simp] theorem setSp_e : (setSp s v).regs.e = s.regs.e := rfl
@[simp] theorem setSp_h : (setSp s v).regs.h = s.regs.h := rfl
@[simp] theorem setSp_l : (setSp s v).regs.l = s.regs.l := rfl
@[simp] theorem setSp_sp : (setSp s v).regs.sp = v := rfl
@[simp] theorem setSp_pc : (setSp s v).regs.pc = s.regs.pc := rfl
@[simp] theorem setSp_engine : (setSp s v).engine = s.engine := rfl
@[simp] theorem setSp_irq : (setSp s v).irq = s.irq := rfl
@[simp] theorem setSp_timer : (setSp s v).timer = s.timer := rfl
@[simp] theorem setSp_bootDisabled : (setSp s v).bootDisabled = s.bootDisabled := rfl
@[simp] theorem setSp_mem : (setSp s v).mem = s.mem := rfl
@[simp] theorem setSp_bootRom : (setSp s v).bootRom = s.bootRom := rfl
@[simp] theorem setSp_collab : (setSp s v).collab = s.collab := rfl
@[simp] theorem setSp_params : (setSp s v).params = s.params := rfl
@[simp] theorem setSp_totalCycles : (setSp s v).totalCycles = s.totalCycles := rfl
@[simp] theorem setSp_cost : (setSp s v).cost = s.cost := rfl
@[simp] theorem setSp_opAddr : (setSp s v).opAddr = s.opAddr := rfl

end

section

variable (v : Byte)

@[simp] theorem setA_a : (setA s v).regs.a = v := rfl
@[simp] theorem setA_f : (setA s v).regs.f = s.regs.f := rfl
@[simp] theorem setA_b : (setA s v).regs.b = s.regs.b := rfl
@[simp] theorem setA_c : (setA s v).regs.c = s.regs.c := rfl
@[simp] theorem setA_d : (setA s v).regs.d = s.regs.d := rfl
@[simp] theorem setA_e : (setA s v).regs.e = s.regs.e := rfl
@[simp] theorem setA_h : (setA s v).regs.h = s.regs.h := rfl
@[simp] theorem setA_l : (setA s v).regs.l = s.regs.l := rfl
@[simp] theorem setA_sp : (setA s v).regs.sp = s.regs.sp := rfl
@[simp] theorem setA_pc : (setA s v).regs.pc = s.regs.pc := rfl
@[simp] theorem setA_engine : (setA s v).engine = s.engine := rfl
@[simp] theorem setA_irq : (setA s v).irq = s.irq := rfl
@[simp] theorem setA_timer : (setA s v).timer = s.timer := rfl
@[simp] theorem setA_bootDisabled : (setA s v).bootDisabled = s.bootDisabled := rfl
@[simp] theorem setA_mem : (setA s v).mem = s.mem := rfl
@[simp] theorem setA_bootRom : (setA s v).bootRom = s.bootRom := rfl
@[simp] theorem setA_collab : (setA s v).collab = s.collab := rfl
@[simp] theorem setA_params : (setA s v).params = s.params := rfl
@[simp] theorem setA_totalCycles : (setA s v).totalCycles = s.totalCycles := rfl
@[simp] theorem setA_cost : (setA s v).cost = s.cost := rfl
@[simp] theorem setA_opAddr : (setA s v).opAddr = s.opAddr := rfl

end

section

variable (v : Byte)

@[simp] theorem setF_a : (setF s v).regs.a = s.regs.a := rfl
@[simp] theorem setF_f : (setF s v).regs.f = v &&& 0xF0 := rfl
@[simp] theorem setF_b : (setF s v).regs.b = s.regs.b := rfl
@[simp] theorem setF_c : (setF s v).regs.c = s.regs.c := rfl
@[simp] theorem setF_d : (setF s v).regs.d = s.regs.d := rfl
@[simp] theorem setF_e : (setF s v).regs.e = s.regs.e := rfl
@[simp] theorem setF_h : (setF s v).regs.h = s.regs.h := rfl
@[simp] theorem setF_l : (setF s v).regs.l = s.regs.l := rfl
@[simp] theorem setF_sp : (setF s v).regs.sp = s.regs.sp := rfl
@[simp] theorem setF_pc : (setF s v).regs.pc = s.regs.pc := rfl
@[simp] theorem setF_engine : (setF s v).engine = s.engine := rfl
@[simp] theorem setF_irq : (setF s v).irq = s.irq := rfl
@[simp] theorem setF_timer : (setF s v).timer = s.timer := rfl
@[simp] theorem setF_bootDisabled : (setF s v).bootDisabled = s.bootDisabled := rfl
@[simp] theorem setF_mem : (setF s v).mem = s.mem := rfl
@[simp] theorem setF_bootRom : (setF s v).bootRom = s.bootRom := rfl
@[simp] theorem setF_collab : (setF s v).collab = s.collab := rfl
@[simp] theorem setF_params : (setF s v).params = s.params := rfl
@[simp] theorem setF_totalCycles : (setF s v).totalCycles = s.totalCycles := rfl
@[simp] theorem setF_cost : (setF s v).cost = s.cost := rfl
@[simp] theorem setF_opAddr : (setF s v).opAddr = s.opAddr := rfl

end

section

variable (v : Word)

@[simp] theorem setAf_a : (setAf s v).regs.a = hiByte v := rfl
@[simp] theorem setAf_f : (setAf s v).regs.f = loByte v &&& 0xF0 := rfl
@[simp] theorem setAf_b : (setAf s v).regs.b = s.regs.b := rfl
@[simp] theorem setAf_c : (setAf s v).regs.c = s.regs.c := rfl
@[simp] theorem setAf_d : (setAf s v).regs.d = s.regs.d := rfl
@[simp] theorem setAf_e : (setAf s v).regs.e = s.regs.e := rfl
@[simp] theorem setAf_h : (setAf s v).regs.h = s.regs.h := rfl
@[simp] theorem setAf_l : (setAf s v).regs.l = s.regs.l := rfl
@[simp] theorem setAf_sp : (setAf s v).regs.sp = s.regs.sp := rfl
@[simp] theorem setAf_pc : (setAf s v).regs.pc = s.regs.pc := rfl
@[simp] theorem setAf_engine : (setAf s v).engine = s.engine := rfl
@[simp] theorem setAf_irq : (setAf s v).irq = s.irq := rfl
@[simp] theorem setAf_timer : (setAf s v).timer = s.timer := rfl
@[simp] theorem setAf_bootDisabled : (setAf s v).bootDisabled = s.bootDisabled := rfl
@[simp] theorem setAf_mem : (setAf s v).mem = s.mem := rfl
@[simp] theorem setAf_bootRom : (setAf s v).bootRom = s.bootRom := rfl
@[simp] theorem setAf_collab : (setAf s v).collab = s.collab := rfl
@[simp] theorem setAf_params : (setAf s v).params = s.params := rfl
@[simp] theorem setAf_totalCycles : (setAf s v).totalCycles = s.totalCycles := rfl
@[simp] theorem setAf_cost : (setAf s v).cost = s.cost := rfl
@[simp] theorem setAf_opAddr : (setAf s v).opAddr = s.opAddr := rfl

end

section

variable (v : Word)

@[simp] theorem setBc_a : (setBc s v).regs.a = s.regs.a := rfl
@[simp] theorem setBc_f : (setBc s v).regs.f = s.regs.f := rfl
@[simp] theorem setBc_b : (setBc s v).regs.b = hiByte v := rfl
@[simp] theorem setBc_c : (setBc s v).regs.c = loByte v := rfl
@[simp] theorem setBc_d : (setBc s v).regs.d = s.regs.d := rfl
@[simp] theorem setBc_e : (setBc s v).regs.e = s.regs.e := rfl
@[simp] theorem setBc_h : (setBc s v).regs.h = s.regs.h := rfl
@[simp] theorem setBc_l : (setBc s v).regs.l = s.regs.l := rfl
@[simp] theorem setBc_sp : (setBc s v).regs.sp = s.regs.sp := rfl
@[simp] theorem setBc_pc : (setBc s v).regs.pc = s.regs.pc := rfl
@[simp] theorem setBc_engine : (setBc s v).engine = s.engine := rfl
@[simp] theorem setBc_irq : (setBc s v).irq = s.irq := rfl
@[simp] theorem setBc_timer : (setBc s v).timer = s.timer := rfl
@[simp] theorem setBc_bootDisabled : (setBc s v).bootDisabled = s.bootDisabled := rfl
@[simp] theorem setBc_mem : (setBc s v).mem = s.mem := rfl
@[simp] theorem setBc_bootRom : (setBc s v).bootRom = s.bootRom := rfl
@[simp] theorem setBc_collab : (setBc s v).collab = s.collab := rfl
@[simp] theorem setBc_params : (setBc s v).params = s.params := rfl
@[simp] theorem setBc_totalCycles : (setBc s v).totalCycles = s.totalCycles := rfl
@[simp] theorem setBc_cost : (setBc s v).cost = s.cost := rfl
@[simp] theorem setBc_opAddr : (setBc s v).opAddr = s.opAddr := rfl

end

section

variable (v : Word)

@[simp] theorem setDe_a : (setDe s v).regs.a = s.regs.a := rfl
@[simp] theorem setDe_f : (setDe s v).regs.f = s.regs.f := rfl
@[simp] theorem setDe_b : (setDe s v).regs.b = s.regs.b := rfl
@[simp] theorem setDe_c : (setDe s v).regs.c = s.regs.c := rfl
@[simp] theorem setDe_d : (setDe s v).regs.d = hiByte v := rfl
@[simp] theorem setDe_e : (setDe s v).regs.e = loByte v := rfl
@[simp] theorem setDe_h : (setDe s v).regs.h = s.regs.h := rfl
@[simp] theorem setDe_l : (setDe s v).regs.l = s.regs.l := rfl
@[simp] theorem setDe_sp : (setDe s v).regs.sp = s.regs.sp := rfl
@[simp] theorem setDe_pc : (setDe s v).regs.pc = s.regs.pc := rfl
@[simp] theorem setDe_engine : (setDe s v).engine = s.engine := rfl
@[simp] theorem setDe_irq : (setDe s v).irq = s.irq := rfl
@[simp] theorem setDe_timer : (setDe s v).timer = s.timer := rfl
@[simp] theorem setDe_bootDisabled : (setDe s v).bootDisabled = s.bootDisabled := rfl
@[simp] theorem setDe_mem : (setDe s v).mem = s.mem := rfl
@[simp] theorem setDe_bootRom : (setDe s v).bootRom = s.bootRom := rfl
@[simp] theorem setDe_collab : (setDe s v).collab = s.collab := rfl
@[simp] theorem setDe_params : (setDe s v).params = s.params := rfl
@[simp] theorem setDe_totalCycles : (setDe s v).totalCycles = s.totalCycles := rfl
@[simp] theorem setDe_cost : (setDe s v).cost = s.cost := rfl
@[simp] theorem setDe_opAddr : (setDe s v).opAddr = s.opAddr := rfl

end

section

variable (v : Word)

@[simp] theorem setHl_a : (setHl s v).regs.a = s.regs.a := rfl
@[simp] theorem setHl_f : (setHl s v).regs.f = s.regs.f := rfl
@[simp] theorem setHl_b : (setHl s v).regs.b = s.regs.b := rfl
@[simp] theorem setHl_c : (setHl s v).regs.c = s.regs.c := rfl
@[simp] theorem setHl_d : (setHl s v).regs.d = s.regs.d := rfl
@[simp] theorem setHl_e : (setHl s v).regs.e = s.regs.e := rfl
@[simp] theorem setHl_h : (setHl s v).regs.h = hiByte v := rfl
@[simp] theorem setHl_l : (setHl s v).regs.l = loByte v := rfl
@[simp] theorem setHl_sp : (setHl s v).regs.sp = s.regs.sp := rfl
@[simp] theorem setHl_pc : (setHl s v).regs.pc = s.regs.pc := rfl
@[simp] theorem setHl_engine : (setHl s v).engine = s.engine := rfl
@[simp] theorem setHl_irq : (setHl s v).irq = s.irq := rfl
@[simp] theorem setHl_timer : (setHl s v).timer = s.timer := rfl
@[simp] theorem setHl_bootDisabled : (setHl s v).bootDisabled = s.bootDisabled := rfl
@[simp] theorem setHl_mem : (setHl s v).mem = s.mem := rfl
@[simp] theorem setHl_bootRom : (setHl s v).bootRom = s.bootRom := rfl
@[simp] theorem setHl_collab : (setHl s v).collab = s.collab := rfl
@[simp] theorem setHl_params : (setHl s v).params = s.params := rfl
@[simp] theorem setHl_totalCycles : (setHl s v).totalCycles = s.totalCycles := rfl
@[simp] theorem setHl_cost : (setHl s v).cost = s.cost := rfl
@[simp] theorem setHl_opAddr : (setHl s v).opAddr = s.opAddr := rfl

end

section

variable (z n h c : Bool)

@[simp] theorem setFlags_a : (setFlags s z n h c).regs.a = s.regs.a := rfl
@[simp] theorem setFlags_f : (setFlags s z n h c).regs.f = packFlags z n h c &&& 0xF0 := rfl
@[simp] theorem setFlags_b : (setFlags s z n h c).regs.b = s.regs.b := rfl
@[simp] theorem setFlags_c : (setFlags s z n h c).regs.c = s.regs.c := rfl
@[simp] theorem setFlags_d : (setFlags s z n h c).regs.d = s.regs.d := rfl
@[simp] theorem setFlags_e : (setFlags s z n h c).regs.e = s.regs.e := rfl
@[simp] theorem setFlags_h : (setFlags s z n h c).regs.h = s.regs.h := rfl
@[simp] theorem setFlags_l : (setFlags s z n h c).regs.l = s.regs.l := rfl
@[simp] theorem setFlags_sp : (setFlags s z n h c).regs.sp = s.regs.sp := rfl
@[simp] theorem setFlags_pc : (setFlags s z n h c).regs.pc = s.regs.pc := rfl
@[simp] theorem setFlags_engine : (setFlags s z n h c).engine = s.engine := rfl
@[simp] theorem setFlags_irq : (setFlags s z n h c).irq = s.irq := rfl
@[simp] theorem setFlags_timer : (setFlags s z n h c).timer = s.timer := rfl
@[simp] theorem setFlags_bootDisabled : (setFlags s z n h c).bootDisabled = s.bootDisabled := rfl
@[simp] theorem setFlags_mem : (setFlags s z n h c).mem = s.mem := rfl
@[simp] theorem setFlags_bootRom : (setFlags s z n h c).bootRom = s.bootRom := rfl
@[simp] theorem setFlags_collab : (setFlags s z n h c).collab = s.collab := rfl
@[simp] theorem setFlags_params : (setFlags s z n h c).params = s.params := rfl
@[simp] theorem setFlags_totalCycles : (setFlags s z n h c).totalCycles = s.totalCycles := rfl
@[simp] theorem setFlags_cost : (setFlags s z n h c).cost = s.cost := rfl
@[simp] theorem setFlags_opAddr : (setFlags s z n h c).opAddr = s.opAddr := rfl

end

section

variable (n k : Nat)

@[simp] theorem charge_regs : (charge s n k).regs = s.regs := rfl
@[simp] theorem charge_engine : (charge s n k).engine = s.engine := rfl
@[simp] theorem charge_irq : (charge s n k).irq = s.irq := rfl
@[simp] theorem charge_timer : (charge s n k).timer = s.timer := rfl
@[simp] theorem charge_bootDisabled : (charge s n k).bootDisabled = s.bootDisabled := rfl
@[simp] theorem charge_mem : (charge s n k).mem = s.mem := rfl
@[simp] theorem charge_bootRom : (charge s n k).bootRom = s.bootRom := rfl
@[simp] theorem charge_collab : (charge s n k).collab = s.collab := rfl
@[simp] theorem charge_params : (charge s n k).params = s.params := rfl
@[simp] theorem charge_totalCycles : (charge s n k).totalCycles = s.totalCycles := rfl
@[simp] theorem charge_cost : (charge s n k).cost = tCycles s.params n k := rfl
@[simp] theorem charge_opAddr : (charge s n k).opAddr = s.opAddr := rfl

end

section

variable (n : Nat) (v : Byte)

@[simp] theorem storeCell_regs : (storeCell s n v).regs = s.regs := rfl
@[simp] theorem storeCell_engine : (storeCell s n v).engine = s.engine := rfl
@[simp] theorem storeCell_irq : (storeCell s n v).irq = s.irq := rfl
@[simp] theorem storeCell_timer : (storeCell s n v).timer = s.timer := rfl
@[simp] theorem storeCell_bootDisabled : (storeCell s n v).bootDisabled = s.bootDisabled := rfl
@[simp] theorem storeCell_mem : (storeCell s n v).mem = Memory.write s.mem n v := rfl
@[simp] theorem storeCell_bootRom : (storeCell s n v).bootRom = s.bootRom := rfl
@[simp] theorem storeCell_collab : (storeCell s n v).collab = s.collab := rfl
@[simp] theorem storeCell_params : (storeCell s n v).params = s.params := rfl
@[simp] theorem storeCell_totalCycles : (storeCell s n v).totalCycles = s.totalCycles := rfl
@[simp] theorem storeCell_cost : (storeCell s n v).cost = s.cost := rfl
@[simp] theorem storeCell_opAddr : (storeCell s n v).opAddr = s.opAddr := rfl

end

end Sys2Proof.Machine
end

