-- ==== Sys2Proof/Laws/Router.lean ====
section
/-! SUPPORT. What the router's two entry points and the word helpers can do, said once: a read changes nothing but
a collaborator's own state, a write changes nothing outside its own byte or register. -/

namespace Sys2Proof.Machine

/-! ### Regions and ranges -/

/-- The first and the last address of a region (20_memory.md R67). -/
def regionEnds : Region → Nat × Nat
  | .bootWindow => (0x0000, 0x00FF)
  | .cartRom => (0x0100, 0x7FFF)
  | .vram => (0x8000, 0x9FFF)
  | .cartRam => (0xA000, 0xBFFF)
  | .wram => (0xC000, 0xDFFF)
  | .echo => (0xE000, 0xFDFF)
  | .oam => (0xFE00, 0xFE9F)
  | .unusable => (0xFEA0, 0xFEFF)
  | .io => (0xFF00, 0xFF7F)
  | .hram => (0xFF80, 0xFFFE)
  | .ieReg => (0xFFFF, 0xFFFF)

/-- Every address lies in the range of its region (20_memory.md R66, R67). -/
theorem regionOf_within (a : Addr) :
    (regionEnds (regionOf a)).1 ≤ a.toNat ∧ a.toNat ≤ (regionEnds (regionOf a)).2 := by
  have ha := a.isLt
  unfold regionOf
  repeat' split
  all_goals simp only [regionEnds]; omega

/-- The range of an address whose region is known. -/
theorem regionOf_inv {a : Addr} {r : Region} (h : regionOf a = r) :
    (regionEnds r).1 ≤ a.toNat ∧ a.toNat ≤ (regionEnds r).2 :=
  h ▸ regionOf_within a

/-- An address in the range of a region has that region, since the ranges do not meet (20_memory.md R66, R67). -/
theorem regionOf_eq {a : Addr} {r : Region} (h1 : (regionEnds r).1 ≤ a.toNat) (h2 : a.toNat ≤ (regionEnds r).2) :
    regionOf a = r := by
  obtain ⟨g1, g2⟩ := regionOf_within a
  revert h1 h2 g1 g2
  cases regionOf a <;> cases r <;> simp only [regionEnds] <;> intros <;> first | trivial | omega

/-- An address of a stored region has a backed key. -/
theorem backed_cellOf {a : Addr}
    (h : regionOf a = .vram ∨ regionOf a = .wram ∨ regionOf a = .echo ∨ regionOf a = .oam ∨ regionOf a = .hram) :
    backed (cellOf a) = true := by
  rcases h with h | h | h | h | h <;> (have hr := regionOf_inv h; simp only [regionEnds] at hr; simp [cellOf, h, backed]; omega)

/-- The key of an address, in numbers (20_memory.md R73). -/
theorem cellOf_eq (a : Addr) :
    cellOf a = if 0xE000 ≤ a.toNat ∧ a.toNat ≤ 0xFDFF then a.toNat - 0x2000 else a.toNat := by
  unfold cellOf
  by_cases h : 0xE000 ≤ a.toNat ∧ a.toNat ≤ 0xFDFF
  · rw [if_pos (regionOf_eq (r := .echo) h.1 h.2), if_pos h]
  · rw [if_neg (fun he => h (regionOf_inv (r := .echo) he)), if_neg h]

/-- Two addresses in a row have two keys. -/
theorem cellOf_succ_ne (a : Addr) : cellOf (a + 1) ≠ cellOf a := by
  have ha := a.isLt
  have e : (a + 1).toNat = (a.toNat + 1) % 65536 := BitVec.toNat_add a 1
  rw [cellOf_eq, cellOf_eq, e]
  split <;> split <;> omega

/-- The address of each I/O register the core owns (20_memory.md R77). -/
def ioRegAddr : IoReg → Nat
  | .div => 0xFF04
  | .tima => 0xFF05
  | .tma => 0xFF06
  | .tac => 0xFF07
  | .ifl => 0xFF0F
  | .boot => 0xFF50
  | .ext => 0

/-- The address of an I/O register of the core is known from its owner. -/
theorem ioRegOf_inv {a : Addr} {r : IoReg} (h : ioRegOf a = r) (hr : r ≠ .ext) : a.toNat = ioRegAddr r := by
  subst h
  unfold ioRegOf at hr ⊢
  by_cases h1 : a.toNat = 0xFF04
  · rw [if_pos h1]; exact h1
  rw [if_neg h1] at hr ⊢
  by_cases h2 : a.toNat = 0xFF05
  · rw [if_pos h2]; exact h2
  rw [if_neg h2] at hr ⊢
  by_cases h3 : a.toNat = 0xFF06
  · rw [if_pos h3]; exact h3
  rw [if_neg h3] at hr ⊢
  by_cases h4 : a.toNat = 0xFF07
  · rw [if_pos h4]; exact h4
  rw [if_neg h4] at hr ⊢
  by_cases h5 : a.toNat = 0xFF0F
  · rw [if_pos h5]; exact h5
  rw [if_neg h5] at hr ⊢
  by_cases h6 : a.toNat = 0xFF50
  · rw [if_pos h6]; exact h6
  · rw [if_neg h6] at hr
    exact absurd rfl hr

/-! ### Reads -/

/-- What a read keeps of the collaborators: all but the cartridge's own state and the answers `EXT_IO` has left, and
the default cartridge stays (20_memory.md R68, R83). -/
structure CollabKept (c d : Collab) : Prop where
  videoMode : d.videoMode = c.videoMode
  inputs : d.inputs = c.inputs
  sent : d.sent = c.sent
  romOnly : c.cart = .romOnly → d.cart = .romOnly

theorem collabKept_refl (c : Collab) : CollabKept c c := ⟨rfl, rfl, rfl, id⟩

/-- What `EXT_IO` keeps of the collaborators when an answer is used up. -/
theorem extIoSpent_kept (c : Collab) : CollabKept c (extIoSpent c) := by
  unfold extIoSpent
  split <;> exact ⟨rfl, rfl, rfl, id⟩

/-- A read of the cartridge leaves the default one as it was. -/
theorem afterRead_romOnly {c : Cart} (h : c = .romOnly) (a : Addr) : c.afterRead a = .romOnly := by
  subst h
  rfl

/-- `CART.read` from the default cartridge changes nothing (20_memory.md R75). -/
theorem cartRead_romOnly {s : State} (h : s.collab.cart = .romOnly) (a : Addr) : (cartRead s a).2 = s := by
  obtain ⟨_, _, _, _, _, _, _, ⟨c, _, _, _, _, _⟩, _, _, _, _⟩ := s
  obtain rfl : c = .romOnly := h
  rfl

/-- A read changes nothing but a collaborator's own state. -/
theorem readByte_state (s : State) (a : Addr) :
    ∃ c, CollabKept s.collab c ∧ (readByte s a).2 = { s with collab := c } := by
  have same : ∀ t : State, t = s → ∃ c, CollabKept s.collab c ∧ t = { s with collab := c } :=
    fun t h => ⟨s.collab, collabKept_refl _, h⟩
  have cart : ∃ c, CollabKept s.collab c ∧ (cartRead s a).2 = { s with collab := c } :=
    ⟨{ s.collab with cart := s.collab.cart.afterRead a }, ⟨rfl, rfl, rfl, fun h => afterRead_romOnly h a⟩, rfl⟩
  unfold readByte
  split <;> try first | exact cart | exact same _ rfl
  · split
    · exact cart
    · exact same _ rfl
  · unfold ioRead
    split <;> first | exact same _ rfl | exact ⟨_, extIoSpent_kept _, rfl⟩

/-- A read that no collaborator with a state of its own answers changes nothing (20_memory.md R68). -/
theorem readByte_core (s : State) {a : Addr} (h : answeredOutside s a = false) : (readByte s a).2 = s := by
  unfold answeredOutside at h
  unfold readByte
  cases hr : regionOf a <;> simp only [hr] at h ⊢
  case bootWindow =>
    split
    · rename_i hb
      simp only [hb, Bool.true_and, decide_eq_false_iff_not, ne_eq, not_not] at h
      exact cartRead_romOnly h a
    · rfl
  case cartRom => exact cartRead_romOnly (by simpa using h) a
  case cartRam => exact cartRead_romOnly (by simpa using h) a
  case io =>
    unfold ioRead
    cases hi : ioRegOf a <;> first | rfl | simp [hi] at h

section

variable (s : State) (a : Addr)

@[simp] theorem readByte_regs : (readByte s a).2.regs = s.regs := by
  obtain ⟨c, -, h⟩ := readByte_state s a
  rw [h]

@[simp] theorem readByte_engine : (readByte s a).2.engine = s.engine := by
  obtain ⟨c, -, h⟩ := readByte_state s a
  rw [h]

@[simp] theorem readByte_irq : (readByte s a).2.irq = s.irq := by
  obtain ⟨c, -, h⟩ := readByte_state s a
  rw [h]

@[simp] theorem readByte_timer : (readByte s a).2.timer = s.timer := by
  obtain ⟨c, -, h⟩ := readByte_state s a
  rw [h]

@[simp] theorem readByte_bootDisabled : (readByte s a).2.bootDisabled = s.bootDisabled := by
  obtain ⟨c, -, h⟩ := readByte_state s a
  rw [h]

@[simp] theorem readByte_mem : (readByte s a).2.mem = s.mem := by
  obtain ⟨c, -, h⟩ := readByte_state s a
  rw [h]

@[simp] theorem readByte_bootRom : (readByte s a).2.bootRom = s.bootRom := by
  obtain ⟨c, -, h⟩ := readByte_state s a
  rw [h]

@[simp] theorem readByte_params : (readByte s a).2.params = s.params := by
  obtain ⟨c, -, h⟩ := readByte_state s a
  rw [h]

@[simp] theorem readByte_totalCycles : (readByte s a).2.totalCycles = s.totalCycles := by
  obtain ⟨c, -, h⟩ := readByte_state s a
  rw [h]

@[simp] theorem readByte_cost : (readByte s a).2.cost = s.cost := by
  obtain ⟨c, -, h⟩ := readByte_state s a
  rw [h]

@[simp] theorem readByte_opAddr : (readByte s a).2.opAddr = s.opAddr := by
  obtain ⟨c, -, h⟩ := readByte_state s a
  rw [h]

@[simp] theorem readByte_videoMode : (readByte s a).2.collab.videoMode = s.collab.videoMode := by
  obtain ⟨c, k, h⟩ := readByte_state s a
  rw [h]
  exact k.videoMode

@[simp] theorem readByte_inputs : (readByte s a).2.collab.inputs = s.collab.inputs := by
  obtain ⟨c, k, h⟩ := readByte_state s a
  rw [h]
  exact k.inputs

@[simp] theorem readByte_sent : (readByte s a).2.collab.sent = s.collab.sent := by
  obtain ⟨c, k, h⟩ := readByte_state s a
  rw [h]
  exact k.sent

/-- The default cartridge stays through a read. -/
theorem readByte_romOnly (hc : s.collab.cart = .romOnly) : (readByte s a).2.collab.cart = .romOnly := by
  obtain ⟨c, k, h⟩ := readByte_state s a
  rw [h]
  exact k.romOnly hc

end

/-- What the byte read at an address depends on, where no collaborator with a state of its own answers. -/
theorem peek_congr {s t : State} {a : Addr} (h : answeredOutside s a = false)
    (hmem : Memory.read t.mem (cellOf a) = Memory.read s.mem (cellOf a)) (hboot : t.bootRom = s.bootRom)
    (hdis : a.toNat ≤ 0xFF → t.bootDisabled = s.bootDisabled)
    (hmode : t.collab.videoMode = s.collab.videoMode) (hcart : s.collab.cart = .romOnly → t.collab.cart = .romOnly)
    (htimer : regionOf a = .io → t.timer = s.timer ∧ t.irq.ifl = s.irq.ifl)
    (hie : regionOf a = .ieReg → t.irq.ie = s.irq.ie) : peek t a = peek s a := by
  have hc : regionOf a ≠ .echo → cellOf a = a.toNat := fun he => if_neg he
  have cart : s.collab.cart = .romOnly → Memory.read t.mem a.toNat = Memory.read s.mem a.toNat →
      (cartRead t a).1 = (cartRead s a).1 := by
    intro hk hm
    simp only [cartRead, cartAnswer, hk, hcart hk, hm]
  unfold answeredOutside at h
  unfold peek readByte
  cases hr : regionOf a <;> simp only [hr] at h ⊢
  case bootWindow =>
    have ha : a.toNat ≤ 0xFF := (regionOf_inv hr).2
    rw [hc (by rw [hr]; decide)] at hmem
    rw [hdis ha]
    by_cases hb : s.bootDisabled = true
    · rw [if_pos hb, if_pos hb]
      exact cart (by simpa [hb] using h) hmem
    · rw [if_neg hb, if_neg hb, hboot]
  case cartRom => exact cart (by simpa using h) (hc (by rw [hr]; decide) ▸ hmem)
  case cartRam => exact cart (by simpa using h) (hc (by rw [hr]; decide) ▸ hmem)
  case vram => rw [hmem, hmode]
  case oam => rw [hmem, hmode]
  case io =>
    obtain ⟨ht, hi⟩ := htimer hr
    unfold ioRead
    cases hg : ioRegOf a
    case ext => simp [hg] at h
    all_goals simp only [ht, hi]
  case ieReg => exact hie hr
  all_goals exact hmem

/-- Who answers a read depends on the boot latch and the cartridge alone (20_memory.md R68, R74). -/
theorem answeredOutside_congr {s t : State} (hb : t.bootDisabled = s.bootDisabled) (hc : t.collab.cart = s.collab.cart)
    (a : Addr) : answeredOutside t a = answeredOutside s a := by
  unfold answeredOutside
  rw [hb, hc]

/-- The byte a read gives does not depend on the engine. -/
@[simp] theorem peek_engine (s : State) (e : Engine) (a : Addr) : peek { s with engine := e } a = peek s a := by
  unfold peek readByte ioRead
  cases regionOf a <;> try rfl
  · cases s.bootDisabled <;> rfl
  · cases ioRegOf a <;> rfl

/-! ### Writes -/

section

variable (s : State) (a : Addr) (v : Byte)

@[simp] theorem writeByte_regs : (writeByte s a v).regs = s.regs := by
  unfold writeByte
  split <;> try (first | rfl | (split <;> rfl))
  unfold ioWrite
  split <;> rfl

@[simp] theorem writeByte_engine : (writeByte s a v).engine = s.engine := by
  unfold writeByte
  split <;> try (first | rfl | (split <;> rfl))
  unfold ioWrite
  split <;> rfl

@[simp] theorem writeByte_bootRom : (writeByte s a v).bootRom = s.bootRom := by
  unfold writeByte
  split <;> try (first | rfl | (split <;> rfl))
  unfold ioWrite
  split <;> rfl

@[simp] theorem writeByte_params : (writeByte s a v).params = s.params := by
  unfold writeByte
  split <;> try (first | rfl | (split <;> rfl))
  unfold ioWrite
  split <;> rfl

@[simp] theorem writeByte_totalCycles : (writeByte s a v).totalCycles = s.totalCycles := by
  unfold writeByte
  split <;> try (first | rfl | (split <;> rfl))
  unfold ioWrite
  split <;> rfl

@[simp] theorem writeByte_cost : (writeByte s a v).cost = s.cost := by
  unfold writeByte
  split <;> try (first | rfl | (split <;> rfl))
  unfold ioWrite
  split <;> rfl

@[simp] theorem writeByte_opAddr : (writeByte s a v).opAddr = s.opAddr := by
  unfold writeByte
  split <;> try (first | rfl | (split <;> rfl))
  unfold ioWrite
  split <;> rfl

@[simp] theorem writeByte_videoMode : (writeByte s a v).collab.videoMode = s.collab.videoMode := by
  unfold writeByte
  split <;> try (first | rfl | (split <;> rfl))
  unfold ioWrite
  split <;> rfl

@[simp] theorem writeByte_inputs : (writeByte s a v).collab.inputs = s.collab.inputs := by
  unfold writeByte
  split <;> try (first | rfl | (split <;> rfl))
  unfold ioWrite
  split <;> rfl

/-- The default cartridge stays through a write (20_memory.md R75). -/
theorem writeByte_romOnly (h : s.collab.cart = .romOnly) : (writeByte s a v).collab.cart = .romOnly := by
  have cart : (cartWrite s a v).collab.cart = .romOnly := by simp only [cartWrite, h, Cart.afterWrite]
  unfold writeByte
  split <;> try (first | exact cart | exact h | (split <;> exact h))
  unfold ioWrite
  split <;> exact h

/-- A write stores in `mem` under the address's own key, or not at all. -/
theorem writeByte_mem :
    (writeByte s a v).mem = s.mem ∨
      ((writeByte s a v).mem = Memory.write s.mem (cellOf a) v ∧ backed (cellOf a) = true) := by
  unfold writeByte
  cases hr : regionOf a with
  | bootWindow => exact .inl rfl
  | cartRom => exact .inl rfl
  | cartRam => exact .inl rfl
  | unusable => exact .inl rfl
  | ieReg => exact .inl rfl
  | io =>
    left
    simp only []
    unfold ioWrite
    split <;> rfl
  | vram =>
    simp only []
    split
    · exact .inl rfl
    · exact .inr ⟨rfl, backed_cellOf (by simp [hr])⟩
  | wram => exact .inr ⟨rfl, backed_cellOf (by simp [hr])⟩
  | echo => exact .inr ⟨rfl, backed_cellOf (by simp [hr])⟩
  | oam =>
    simp only []
    split
    · exact .inl rfl
    · exact .inr ⟨rfl, backed_cellOf (by simp [hr])⟩
  | hram => exact .inr ⟨rfl, backed_cellOf (by simp [hr])⟩

/-- A write outside the I/O registers leaves the timer, IF and the boot latch alone. -/
theorem writeByte_not_io (h : regionOf a ≠ .io) :
    (writeByte s a v).timer = s.timer ∧ (writeByte s a v).irq.ifl = s.irq.ifl ∧
      (writeByte s a v).bootDisabled = s.bootDisabled := by
  unfold writeByte
  cases hr : regionOf a <;>
    first | exact ⟨rfl, rfl, rfl⟩ | exact absurd hr h | (dsimp only; split <;> exact ⟨rfl, rfl, rfl⟩)

/-- A write outside 0xFFFF leaves IE alone. -/
theorem writeByte_not_ie (h : regionOf a ≠ .ieReg) : (writeByte s a v).irq.ie = s.irq.ie := by
  unfold writeByte
  cases hr : regionOf a <;>
    first | exact absurd hr h | rfl | (dsimp only; unfold ioWrite; split <;> rfl) | (dsimp only; split <;> rfl)

/-- A byte of freely writable memory is one cell, for writes and for reads. -/
theorem ramAt_access {s : State} {a : Addr} (h : ramAt s a = true) (v : Byte) :
    writeByte s a v = storeCell s (cellOf a) v ∧
      ∀ t : State, t.collab.videoMode = s.collab.videoMode → readByte t a = (Memory.read t.mem (cellOf a), t) := by
  unfold ramAt at h
  unfold writeByte readByte
  cases hr : regionOf a <;> rw [hr] at h <;>
    first
      | exact absurd h Bool.false_ne_true
      | exact ⟨rfl, fun _ _ => rfl⟩
      | (simp only [Bool.not_eq_true'] at h; exact ⟨by simp [h], fun t ht => by simp [ht, h]⟩)

/-- The boot latch is never cleared by a write (10_state.md R42). -/
theorem writeByte_bootDisabled (h : s.bootDisabled = true) : (writeByte s a v).bootDisabled = true := by
  unfold writeByte
  split <;> try (first | exact h | (split <;> exact h))
  unfold ioWrite
  split <;> try exact h
  simp [h]

end

end Sys2Proof.Machine
end

