-- ==== Sys2Proof/Laws/Words.lean ====
section
/-! SUPPORT. The laws of the byte and word helpers and of the packed flags. -/

namespace Sys2Proof.Machine

theorem mkWord_toNat (h l : Byte) : (mkWord h l).toNat = h.toNat * 256 + l.toNat := by
  simp only [mkWord, BitVec.toNat_append]
  rw [← Nat.shiftLeft_add_eq_or_of_lt l.isLt, Nat.shiftLeft_eq]

theorem hiByte_toNat (w : Word) : (hiByte w).toNat = w.toNat / 256 := by
  have := w.isLt
  simp only [hiByte, BitVec.extractLsb'_toNat, Nat.shiftRight_eq_div_pow]
  omega

theorem loByte_toNat (w : Word) : (loByte w).toNat = w.toNat % 256 := by
  simp only [loByte, BitVec.extractLsb'_toNat, Nat.shiftRight_zero]

@[simp] theorem hiByte_mkWord (h l : Byte) : hiByte (mkWord h l) = h := by
  have := l.isLt
  apply BitVec.eq_of_toNat_eq
  rw [hiByte_toNat, mkWord_toNat]
  omega

@[simp] theorem loByte_mkWord (h l : Byte) : loByte (mkWord h l) = l := by
  have := l.isLt
  apply BitVec.eq_of_toNat_eq
  rw [loByte_toNat, mkWord_toNat]
  omega

@[simp] theorem mkWord_hi_lo (w : Word) : mkWord (hiByte w) (loByte w) = w := by
  apply BitVec.eq_of_toNat_eq
  rw [mkWord_toNat, hiByte_toNat, loByte_toNat]
  omega

/-- The flags read back from a packed F (10_state.md R24). -/
theorem packFlags_bits (z n h c : Bool) :
    (packFlags z n h c).getLsbD 7 = z ∧ (packFlags z n h c).getLsbD 6 = n ∧
      (packFlags z n h c).getLsbD 5 = h ∧ (packFlags z n h c).getLsbD 4 = c := by
  revert z n h c
  decide

/-- A packed F has a zero low nibble, so the mask of `setF` leaves it (10_state.md R22). -/
theorem packFlags_masked (z n h c : Bool) : packFlags z n h c &&& 0xF0 = packFlags z n h c := by
  revert z n h c
  decide

/-- Every write to F leaves its low nibble 0 (10_state.md R22). -/
theorem mask_low (v : Byte) : (v &&& 0xF0) &&& 0x0F = 0 := by
  rw [BitVec.and_assoc]
  exact BitVec.and_zero

/-- F after an update of all four flags. -/
theorem setFlags_f_packed (s : State) (z n h c : Bool) : (setFlags s z n h c).regs.f = packFlags z n h c :=
  packFlags_masked z n h c

@[simp] theorem flagZ_setFlags (s : State) (z n h c : Bool) : flagZ (setFlags s z n h c) = z := by
  rw [flagZ, setFlags_f_packed]
  exact (packFlags_bits z n h c).1

@[simp] theorem flagN_setFlags (s : State) (z n h c : Bool) : flagN (setFlags s z n h c) = n := by
  rw [flagN, setFlags_f_packed]
  exact (packFlags_bits z n h c).2.1

@[simp] theorem flagH_setFlags (s : State) (z n h c : Bool) : flagH (setFlags s z n h c) = h := by
  rw [flagH, setFlags_f_packed]
  exact (packFlags_bits z n h c).2.2.1

@[simp] theorem flagC_setFlags (s : State) (z n h c : Bool) : flagC (setFlags s z n h c) = c := by
  rw [flagC, setFlags_f_packed]
  exact (packFlags_bits z n h c).2.2.2

end Sys2Proof.Machine
end

