-- ==== Sys2Proof/Laws/Operands.lean ====
section
/-! SUPPORT. What reading and writing an operand can do, and the views of the register pairs (10_state.md R21,
30_encoding.md R103, R104). -/

namespace Sys2Proof.Machine

/-! ### Nothing but registers and the cost -/

theorem SameButRegs.refl (s : State) : SameButRegs s s :=
  ⟨rfl, rfl, rfl, rfl, rfl, rfl, rfl, rfl, rfl, rfl⟩

theorem SameButRegs.trans {s t u : State} (h : SameButRegs s t) (k : SameButRegs t u) : SameButRegs s u :=
  ⟨k.engine.trans h.engine, k.irq.trans h.irq, k.timer.trans h.timer, k.bootDisabled.trans h.bootDisabled,
    k.mem.trans h.mem, k.bootRom.trans h.bootRom, k.collab.trans h.collab, k.params.trans h.params,
    k.totalCycles.trans h.totalCycles, k.opAddr.trans h.opAddr⟩

/-- Other registers and another cost are all that may differ. -/
theorem SameButRegs.of_eq {s t : State} (h : t = { s with regs := t.regs, cost := t.cost }) : SameButRegs s t := by
  rw [h]
  exact ⟨rfl, rfl, rfl, rfl, rfl, rfl, rfl, rfl, rfl, rfl⟩

/-- A read sees no difference between states that differ in registers and the cost alone. -/
theorem SameButRegs.readByte {s t : State} (h : SameButRegs s t) (a : Addr) :
    (readByte t a).1 = (readByte s a).1 ∧ SameButRegs (readByte s a).2 (readByte t a).2 := by
  obtain ⟨r, e, i, ti, b, m, br, c, p, tc, co, op⟩ := s
  obtain ⟨r', e', i', ti', b', m', br', c', p', tc', co', op'⟩ := t
  obtain ⟨h1, h2, h3, h4, h5, h6, h7, h8, h9, h10⟩ := h
  dsimp only at h1 h2 h3 h4 h5 h6 h7 h8 h9 h10
  subst h1 h2 h3 h4 h5 h6 h7 h8 h9 h10
  unfold Machine.readByte
  cases regionOf a <;>
    try (first
      | exact ⟨rfl, ⟨rfl, rfl, rfl, rfl, rfl, rfl, rfl, rfl, rfl, rfl⟩⟩
      | (dsimp only; split <;> exact ⟨rfl, ⟨rfl, rfl, rfl, rfl, rfl, rfl, rfl, rfl, rfl, rfl⟩⟩))
  unfold ioRead
  cases ioRegOf a <;> exact ⟨rfl, ⟨rfl, rfl, rfl, rfl, rfl, rfl, rfl, rfl, rfl, rfl⟩⟩

/-- A write acts alike on states that differ in registers and the cost alone. -/
theorem SameButRegs.writeByte {s t : State} (h : SameButRegs s t) (a : Addr) (v : Byte) :
    SameButRegs (writeByte s a v) (writeByte t a v) := by
  obtain ⟨r, e, i, ti, b, m, br, c, p, tc, co, op⟩ := s
  obtain ⟨r', e', i', ti', b', m', br', c', p', tc', co', op'⟩ := t
  obtain ⟨h1, h2, h3, h4, h5, h6, h7, h8, h9, h10⟩ := h
  dsimp only at h1 h2 h3 h4 h5 h6 h7 h8 h9 h10
  subst h1 h2 h3 h4 h5 h6 h7 h8 h9 h10
  unfold Machine.writeByte
  cases regionOf a <;>
    try (first
      | exact ⟨rfl, rfl, rfl, rfl, rfl, rfl, rfl, rfl, rfl, rfl⟩
      | (dsimp only; split <;> exact ⟨rfl, rfl, rfl, rfl, rfl, rfl, rfl, rfl, rfl, rfl⟩))
  unfold ioWrite
  cases ioRegOf a <;> exact ⟨rfl, rfl, rfl, rfl, rfl, rfl, rfl, rfl, rfl, rfl⟩

section

variable (s : State)

theorem same_setPc (v : Addr) : SameButRegs s (setPc s v) := .of_eq rfl
theorem same_setSp (v : Word) : SameButRegs s (setSp s v) := .of_eq rfl
theorem same_setA (v : Byte) : SameButRegs s (setA s v) := .of_eq rfl
theorem same_setFlags (z n h c : Bool) : SameButRegs s (setFlags s z n h c) := .of_eq rfl
theorem same_setHl (v : Word) : SameButRegs s (setHl s v) := .of_eq rfl
theorem same_charge (n k : Nat) : SameButRegs s (charge s n k) := .of_eq rfl

theorem same_writeR16 (r : R16) (v : Word) : SameButRegs s (writeR16 r v s) := by
  cases r <;> exact .of_eq rfl

theorem same_writeStk (r : R16Stk) (v : Word) : SameButRegs s (writeStk r v s) := by
  cases r <;> exact .of_eq rfl

theorem same_memAfter (m : R16Mem) : SameButRegs s (memAfter m s) := by
  cases m <;> exact .of_eq rfl

/-! ### The pairs -/

@[simp] theorem getBc_setBc (v : Word) : getBc (setBc s v) = v := mkWord_hi_lo v
@[simp] theorem getDe_setDe (v : Word) : getDe (setDe s v) = v := mkWord_hi_lo v
@[simp] theorem getHl_setHl (v : Word) : getHl (setHl s v) = v := mkWord_hi_lo v

/-- AF reads back with the low nibble of F zero (10_state.md R22). -/
theorem getAf_setAf (v : Word) : getAf (setAf s v) = v &&& 0xFFF0 := by
  have e : (0xFFF0 : Word) = (0xFF : Byte) ++ (0xF0 : Byte) := by decide
  have h : hiByte v &&& 0xFF = hiByte v := BitVec.and_allOnes
  calc getAf (setAf s v) = (hiByte v ++ (loByte v &&& 0xF0) : Word) := rfl
    _ = ((hiByte v ++ loByte v : Word)) &&& 0xFFF0 := by rw [e, BitVec.and_append, h]
    _ = v &&& 0xFFF0 := congrArg (· &&& 0xFFF0) (mkWord_hi_lo v)

@[simp] theorem readR16_writeR16 (r : R16) (v : Word) : readR16 r (writeR16 r v s) = v := by
  cases r <;> first | exact mkWord_hi_lo v | rfl

/-- A popped pair reads back, AF with its low nibble 0 (40_load_store.md R152). -/
theorem readStk_writeStk (r : R16Stk) (v : Word) :
    readStk r (writeStk r v s) = v &&& (if r = .af then 0xFFF0 else 0xFFFF) := by
  have hall : v &&& 0xFFFF = v := BitVec.and_allOnes
  cases r with
  | bc => exact (mkWord_hi_lo v).trans hall.symm
  | de => exact (mkWord_hi_lo v).trans hall.symm
  | hl => exact (mkWord_hi_lo v).trans hall.symm
  | af => exact getAf_setAf s v

/-! ### The 8-bit operand -/

variable (o : R8)

/-- Reading an operand changes nothing but a collaborator's own state. -/
theorem readR8_state : ∃ c, CollabKept s.collab c ∧ (readR8 o s).2 = { s with collab := c } := by
  cases o <;> first | exact ⟨_, collabKept_refl _, rfl⟩ | exact readByte_state s (getHl s)

@[simp] theorem readR8_regs : (readR8 o s).2.regs = s.regs := by
  obtain ⟨c, -, h⟩ := readR8_state s o
  rw [h]

@[simp] theorem readR8_engine : (readR8 o s).2.engine = s.engine := by
  obtain ⟨c, -, h⟩ := readR8_state s o
  rw [h]

@[simp] theorem readR8_params : (readR8 o s).2.params = s.params := by
  obtain ⟨c, -, h⟩ := readR8_state s o
  rw [h]

@[simp] theorem readR8_mem : (readR8 o s).2.mem = s.mem := by
  obtain ⟨c, -, h⟩ := readR8_state s o
  rw [h]

@[simp] theorem readR8_bootRom : (readR8 o s).2.bootRom = s.bootRom := by
  obtain ⟨c, -, h⟩ := readR8_state s o
  rw [h]

@[simp] theorem flagC_readR8 : flagC (readR8 o s).2 = flagC s := by
  rw [flagC, readR8_regs, flagC]

variable (v : Byte)

@[simp] theorem writeR8_engine : (writeR8 o v s).engine = s.engine := by
  cases o <;> first | rfl | exact writeByte_engine s (getHl s) v

@[simp] theorem writeR8_f : (writeR8 o v s).regs.f = s.regs.f := by
  cases o <;> first | rfl | exact congrArg Regs.f (writeByte_regs s (getHl s) v)

@[simp] theorem writeR8_sp : (writeR8 o v s).regs.sp = s.regs.sp := by
  cases o <;> first | rfl | exact congrArg Regs.sp (writeByte_regs s (getHl s) v)

@[simp] theorem writeR8_pc : (writeR8 o v s).regs.pc = s.regs.pc := by
  cases o <;> first | rfl | exact congrArg Regs.pc (writeByte_regs s (getHl s) v)

/-- A register operand written is read back as written; every other register stays (30_encoding.md R103). -/
theorem regOf_writeR8 (r : R8) :
    regOf (writeR8 o v s) r = if o = r ∧ r ≠ .atHl then some v else regOf s r := by
  cases o <;> cases r <;> first | rfl | simp [writeR8, regOf]

/-- What a write to an operand and then any change to F and the cost amounts to. -/
theorem operandWritten_writeR8 {s t : State} (hr : ∀ r, regOf t r = regOf (writeR8 o v s) r)
    (ht : SameButRegs (writeR8 o v s) t) : OperandWritten o v s t := by
  unfold OperandWritten
  split
  · rename_i h
    subst h
    exact ht
  · rename_i h
    refine ⟨?_, SameButRegs.trans ?_ ht⟩
    · rw [hr, regOf_writeR8, if_pos ⟨rfl, h⟩]
    · cases o <;> first | exact .of_eq rfl | exact absurd rfl h

end

end Sys2Proof.Machine
end

