-- ==== Sys2Proof/Laws/Stack.lean ====
section
/-! SUPPORT. What word accesses, the stack primitives, interrupt service and the return from it can do
(20_memory.md R72, 40_load_store.md R150, R151, 60_exceptions.md R334, 44_control.md R280). -/

namespace Sys2Proof.Machine

variable (s : State)

/-! ### Words in memory -/

section

variable (a : Addr)

/-- A word read is its two byte reads, low byte first (20_memory.md R72). -/
theorem readWord_eq :
    readWord s a =
      (mkWord (readByte (readByte s a).2 (a + 1)).1 (readByte s a).1, (readByte (readByte s a).2 (a + 1)).2) := rfl

@[simp] theorem readWord_regs : (readWord s a).2.regs = s.regs := by simp [readWord_eq]
@[simp] theorem readWord_engine : (readWord s a).2.engine = s.engine := by simp [readWord_eq]
@[simp] theorem readWord_irq : (readWord s a).2.irq = s.irq := by simp [readWord_eq]
@[simp] theorem readWord_timer : (readWord s a).2.timer = s.timer := by simp [readWord_eq]
@[simp] theorem readWord_bootDisabled : (readWord s a).2.bootDisabled = s.bootDisabled := by simp [readWord_eq]
@[simp] theorem readWord_mem : (readWord s a).2.mem = s.mem := by simp [readWord_eq]
@[simp] theorem readWord_bootRom : (readWord s a).2.bootRom = s.bootRom := by simp [readWord_eq]
@[simp] theorem readWord_params : (readWord s a).2.params = s.params := by simp [readWord_eq]
@[simp] theorem readWord_totalCycles : (readWord s a).2.totalCycles = s.totalCycles := by simp [readWord_eq]
@[simp] theorem readWord_cost : (readWord s a).2.cost = s.cost := by simp [readWord_eq]
@[simp] theorem readWord_opAddr : (readWord s a).2.opAddr = s.opAddr := by simp [readWord_eq]

end

section

variable (a : Addr) (v : Word)

/-- A word write is its two byte writes, low byte first (20_memory.md R72). -/
theorem writeWord_eq : writeWord s a v = writeByte (writeByte s a (loByte v)) (a + 1) (hiByte v) := rfl

@[simp] theorem writeWord_regs : (writeWord s a v).regs = s.regs := by simp [writeWord_eq]
@[simp] theorem writeWord_engine : (writeWord s a v).engine = s.engine := by simp [writeWord_eq]
@[simp] theorem writeWord_bootRom : (writeWord s a v).bootRom = s.bootRom := by simp [writeWord_eq]
@[simp] theorem writeWord_params : (writeWord s a v).params = s.params := by simp [writeWord_eq]
@[simp] theorem writeWord_totalCycles : (writeWord s a v).totalCycles = s.totalCycles := by simp [writeWord_eq]
@[simp] theorem writeWord_cost : (writeWord s a v).cost = s.cost := by simp [writeWord_eq]
@[simp] theorem writeWord_opAddr : (writeWord s a v).opAddr = s.opAddr := by simp [writeWord_eq]

/-- A word write acts alike on states that differ in registers and the cost alone. -/
theorem SameButRegs.writeWord {s t : State} (h : SameButRegs s t) (a : Addr) (v : Word) :
    SameButRegs (writeWord s a v) (writeWord t a v) := (h.writeByte _ _).writeByte _ _

end

/-! ### The stack -/

section

variable (v : Word)

/-- A push is two byte writes below SP, and SP down by 2 (40_load_store.md R150). -/
theorem push16_same :
    SameButRegs (writeByte (writeByte s (s.regs.sp - 2) (loByte v)) (s.regs.sp - 2 + 1) (hiByte v)) (push16 s v) :=
  ((same_setSp s _).writeByte _ _).writeByte _ _

theorem push16_regs : (push16 s v).regs = { s.regs with sp := s.regs.sp - 2 } :=
  writeWord_regs _ _ _

@[simp] theorem push16_sp : (push16 s v).regs.sp = s.regs.sp - 2 := by rw [push16_regs]
@[simp] theorem push16_pc : (push16 s v).regs.pc = s.regs.pc := by rw [push16_regs]
@[simp] theorem push16_f : (push16 s v).regs.f = s.regs.f := by rw [push16_regs]
@[simp] theorem push16_engine : (push16 s v).engine = s.engine := by simp [push16]
@[simp] theorem push16_bootRom : (push16 s v).bootRom = s.bootRom := by simp [push16]
@[simp] theorem push16_params : (push16 s v).params = s.params := by simp [push16]
@[simp] theorem push16_totalCycles : (push16 s v).totalCycles = s.totalCycles := by simp [push16]

@[simp] theorem regOf_push16 (r : R8) : regOf (push16 s v) r = regOf s r := by
  cases r <;> simp [regOf, push16_regs]

end

/-- A pop is two byte reads at SP, low byte first, and SP up by 2 (40_load_store.md R151). -/
theorem pop16_eq :
    pop16 s =
      (mkWord (readByte (readByte s s.regs.sp).2 (s.regs.sp + 1)).1 (readByte s s.regs.sp).1,
        setSp (readByte (readByte s s.regs.sp).2 (s.regs.sp + 1)).2 (s.regs.sp + 2)) := rfl

theorem pop16_same : SameButRegs (readByte (readByte s s.regs.sp).2 (s.regs.sp + 1)).2 (pop16 s).2 := by
  rw [pop16_eq]
  exact same_setSp _ _

theorem pop16_regs : (pop16 s).2.regs = { s.regs with sp := s.regs.sp + 2 } := by
  rw [pop16_eq]
  simp [setSp]

@[simp] theorem pop16_sp : (pop16 s).2.regs.sp = s.regs.sp + 2 := by rw [pop16_regs]
@[simp] theorem pop16_pc : (pop16 s).2.regs.pc = s.regs.pc := by rw [pop16_regs]
@[simp] theorem pop16_f : (pop16 s).2.regs.f = s.regs.f := by rw [pop16_regs]
@[simp] theorem pop16_engine : (pop16 s).2.engine = s.engine := by simp [pop16_eq]
@[simp] theorem pop16_mem : (pop16 s).2.mem = s.mem := by simp [pop16_eq]
@[simp] theorem pop16_bootRom : (pop16 s).2.bootRom = s.bootRom := by simp [pop16_eq]
@[simp] theorem pop16_params : (pop16 s).2.params = s.params := by simp [pop16_eq]
@[simp] theorem pop16_totalCycles : (pop16 s).2.totalCycles = s.totalCycles := by simp [pop16_eq]

@[simp] theorem regOf_pop16 (r : R8) : regOf (pop16 s).2 r = regOf s r := by
  cases r <;> simp [regOf, pop16_regs]

/-! ### Interrupt service and its return -/

/-- The lowest source of a pending mask: its own bit is set and no lower one is (60_exceptions.md R333). -/
theorem lowestSource_some {m : BitVec 5} {i : Fin 5} (h : lowestSource m = some i) :
    m.getLsbD i.val = true ∧ ∀ k, k < i.val → m.getLsbD k = false := by
  revert m i
  decide

/-- There is a lowest source exactly when something is pending. -/
theorem lowestSource_none {m : BitVec 5} : lowestSource m = none ↔ m = 0 := by
  revert m
  decide

/-- With a source pending, service is that of the lowest one. -/
theorem serviceInterrupt_pending (h : pendingMask s ≠ 0) :
    ∃ i, lowestSource (pendingMask s) = some i ∧ serviceInterrupt s = serviceSource s i := by
  unfold serviceInterrupt
  cases hl : lowestSource (pendingMask s) with
  | none => exact absurd (lowestSource_none.1 hl) h
  | some i => exact ⟨i, rfl, rfl⟩

/-- Everything service does to the registers and the engine (60_exceptions.md R334). -/
theorem serviceSource_facts (i : Fin 5) :
    (serviceSource s i).regs = { s.regs with sp := s.regs.sp - 2, pc := vectorOf i } ∧
      (serviceSource s i).engine =
        { s.engine with ime := false, imeScheduled := false, halted := false, haltBug := false } ∧
      (serviceSource s i).bootRom = s.bootRom ∧ (serviceSource s i).params = s.params ∧
      (serviceSource s i).totalCycles = s.totalCycles ∧ (serviceSource s i).cost = tCycles s.params 2 3 := by
  refine ⟨?_, ?_, ?_, ?_, ?_, ?_⟩ <;> simp [serviceSource, setPc, charge, push16_regs, clearRequest]

/-- Everything the return from an interrupt does to the registers and the engine (44_control.md R280). -/
theorem returnFromInterrupt_facts :
    (returnFromInterrupt s).regs = { s.regs with sp := s.regs.sp + 2, pc := (pop16 s).1 } ∧
      (returnFromInterrupt s).engine = { s.engine with ime := true, imeScheduled := false } ∧
      (returnFromInterrupt s).mem = s.mem := by
  refine ⟨?_, ?_, ?_⟩ <;> simp [returnFromInterrupt, setPc, pop16_regs]

end Sys2Proof.Machine
end

