-- ==== Sys2Proof/Laws/Effects.lean ====
section
/-! SUPPORT. What no effect can break, said once for every instruction: the canonical form of memory, the low nibble of
F, the boot latch, and the fields no instruction writes. -/

namespace Sys2Proof.Machine

/-- What `t` keeps of `s` whenever `t` comes from `s` by operations of the machine. -/
structure Keeps (s t : State) : Prop where
  memWf : Memory.wf s.mem = true → Memory.wf t.mem = true
  memBacked : (∀ n v, (n, v) ∈ s.mem → backed n = true) → ∀ n v, (n, v) ∈ t.mem → backed n = true
  fLow : s.regs.f &&& 0x0F = 0 → t.regs.f &&& 0x0F = 0
  bootDisabled : s.bootDisabled = true → t.bootDisabled = true
  bootRom : t.bootRom = s.bootRom
  params : t.params = s.params
  totalCycles : t.totalCycles = s.totalCycles
  opAddr : t.opAddr = s.opAddr
  videoMode : t.collab.videoMode = s.collab.videoMode
  inputs : t.collab.inputs = s.collab.inputs
  refused : t.engine.refused = s.engine.refused
  romOnly : s.collab.cart = .romOnly → t.collab.cart = .romOnly

theorem Keeps.trans {s t u : State} (h : Keeps s t) (k : Keeps t u) : Keeps s u where
  memWf := k.memWf ∘ h.memWf
  memBacked := k.memBacked ∘ h.memBacked
  fLow := k.fLow ∘ h.fLow
  bootDisabled := k.bootDisabled ∘ h.bootDisabled
  bootRom := k.bootRom.trans h.bootRom
  params := k.params.trans h.params
  totalCycles := k.totalCycles.trans h.totalCycles
  opAddr := k.opAddr.trans h.opAddr
  videoMode := k.videoMode.trans h.videoMode
  inputs := k.inputs.trans h.inputs
  refused := k.refused.trans h.refused
  romOnly := k.romOnly ∘ h.romOnly

/-- A change of registers and cost alone keeps all of it, if F stays legal. -/
theorem SameButRegs.keeps {s t : State} (h : SameButRegs s t)
    (hf : s.regs.f &&& 0x0F = 0 → t.regs.f &&& 0x0F = 0) : Keeps s t where
  memWf := fun hm => h.mem ▸ hm
  memBacked := fun hm => h.mem ▸ hm
  fLow := hf
  bootDisabled := fun hb => h.bootDisabled ▸ hb
  bootRom := h.bootRom
  params := h.params
  totalCycles := h.totalCycles
  opAddr := h.opAddr
  videoMode := by rw [h.collab]
  inputs := by rw [h.collab]
  refused := by rw [h.engine]
  romOnly := fun hc => h.collab ▸ hc

section

variable (s : State)

theorem keeps_refl : Keeps s s := (SameButRegs.refl s).keeps id

theorem keeps_charge (n k : Nat) : Keeps s (charge s n k) := (same_charge s n k).keeps id
theorem keeps_setPc (v : Addr) : Keeps s (setPc s v) := (same_setPc s v).keeps id
theorem keeps_setSp (v : Word) : Keeps s (setSp s v) := (same_setSp s v).keeps id
theorem keeps_setA (v : Byte) : Keeps s (setA s v) := (same_setA s v).keeps id
theorem keeps_setHl (v : Word) : Keeps s (setHl s v) := (same_setHl s v).keeps id

theorem keeps_setFlags (z n h c : Bool) : Keeps s (setFlags s z n h c) :=
  (same_setFlags s z n h c).keeps fun _ => mask_low _

theorem keeps_writeR16 (r : R16) (v : Word) : Keeps s (writeR16 r v s) :=
  (same_writeR16 s r v).keeps (by cases r <;> exact id)

theorem keeps_writeStk (r : R16Stk) (v : Word) : Keeps s (writeStk r v s) :=
  (same_writeStk s r v).keeps (by cases r <;> first | exact id | exact fun _ => mask_low _)

theorem keeps_memAfter (m : R16Mem) : Keeps s (memAfter m s) :=
  (same_memAfter s m).keeps (by cases m <;> exact id)

/-- A change of the waiting and interrupt state of the engine, and of the cost, keeps all of it. -/
theorem keeps_engine {s t : State} (h : t = { s with engine := t.engine, cost := t.cost })
    (hr : t.engine.refused = s.engine.refused) : Keeps s t := by
  generalize t.engine = e at h hr
  generalize t.cost = k at h
  subst h
  exact ⟨id, id, id, id, rfl, rfl, rfl, rfl, rfl, rfl, hr, id⟩

theorem keeps_readByte (a : Addr) : Keeps s (readByte s a).2 where
  memWf := fun h => by rwa [readByte_mem]
  memBacked := fun h => by rwa [readByte_mem]
  fLow := fun h => by rwa [readByte_regs]
  bootDisabled := fun h => by rwa [readByte_bootDisabled]
  bootRom := readByte_bootRom s a
  params := readByte_params s a
  totalCycles := readByte_totalCycles s a
  opAddr := readByte_opAddr s a
  videoMode := readByte_videoMode s a
  inputs := readByte_inputs s a
  refused := by rw [readByte_engine]
  romOnly := readByte_romOnly s a

theorem keeps_writeByte (a : Addr) (v : Byte) : Keeps s (writeByte s a v) where
  memWf := fun h => by
    rcases writeByte_mem s a v with e | e
    · rwa [e]
    · rw [e.1]
      exact memory_wf_write h _ _
  memBacked := fun h n w hn => by
    rcases writeByte_mem s a v with e | e
    · rw [e] at hn
      exact h n w hn
    · rw [e.1] at hn
      rcases memory_mem_write hn with hk | ⟨u, hu⟩
      · exact hk ▸ e.2
      · exact h n u hu
  fLow := fun h => by rwa [writeByte_regs]
  bootDisabled := writeByte_bootDisabled s a v
  bootRom := writeByte_bootRom s a v
  params := writeByte_params s a v
  totalCycles := writeByte_totalCycles s a v
  opAddr := writeByte_opAddr s a v
  videoMode := writeByte_videoMode s a v
  inputs := writeByte_inputs s a v
  refused := by rw [writeByte_engine]
  romOnly := writeByte_romOnly s a v

theorem keeps_readR8 (o : R8) : Keeps s (readR8 o s).2 := by
  cases o <;> first | exact keeps_refl s | exact keeps_readByte s _

theorem keeps_writeR8 (o : R8) (v : Byte) : Keeps s (writeR8 o v s) := by
  cases o <;> first | exact keeps_writeByte s _ v | exact (SameButRegs.of_eq rfl).keeps id

theorem keeps_writeWord (a : Addr) (v : Word) : Keeps s (writeWord s a v) :=
  (keeps_writeByte s _ _).trans (keeps_writeByte _ _ _)

theorem keeps_push16 (v : Word) : Keeps s (push16 s v) := (keeps_setSp s _).trans (keeps_writeWord _ _ _)

theorem keeps_pop16 : Keeps s (pop16 s).2 :=
  ((keeps_readByte s _).trans (keeps_readByte _ _)).trans (keeps_setSp _ _)

theorem keeps_returnFromInterrupt : Keeps s (returnFromInterrupt s) :=
  ((keeps_pop16 s).trans (keeps_setPc _ _)).trans (keeps_engine rfl rfl)

theorem keeps_serviceSource (i : Fin 5) : Keeps s (serviceSource s i) := by
  have h : Keeps s
      { clearRequest s i with engine :=
        { s.engine with ime := false, imeScheduled := false, halted := false, haltBug := false } } :=
    ⟨id, id, id, id, rfl, rfl, rfl, rfl, rfl, rfl, rfl, id⟩
  exact ((h.trans (keeps_push16 _ _)).trans (keeps_setPc _ _)).trans (keeps_charge _ _ _)

theorem keeps_serviceInterrupt : Keeps s (serviceInterrupt s) := by
  unfold serviceInterrupt
  split
  · exact keeps_serviceSource s _
  · exact keeps_refl s

theorem keeps_aluWriteBack (op : AluOp) (x : AluResult) : Keeps s (aluWriteBack op x s) := by
  unfold aluWriteBack
  refine Keeps.trans ?_ (keeps_setFlags _ _ _ _ _)
  split
  · exact keeps_refl s
  · exact keeps_setA s _

theorem keeps_rotateR8 (k : RotOp) (o : R8) : Keeps s (rotateR8 k o s) :=
  (((keeps_readR8 s o).trans (keeps_writeR8 _ _ _)).trans (keeps_setFlags _ _ _ _ _)).trans (keeps_charge _ _ _)

theorem keeps_bitTestR8 (b : BitVec 3) (o : R8) : Keeps s (bitTestR8 b o s) :=
  ((keeps_readR8 s o).trans (keeps_setFlags _ _ _ _ _)).trans (keeps_charge _ _ _)

theorem keeps_bitResR8 (b : BitVec 3) (o : R8) : Keeps s (bitResR8 b o s) :=
  ((keeps_readR8 s o).trans (keeps_writeR8 _ _ _)).trans (keeps_charge _ _ _)

theorem keeps_bitSetR8 (b : BitVec 3) (o : R8) : Keeps s (bitSetR8 b o s) :=
  ((keeps_readR8 s o).trans (keeps_writeR8 _ _ _)).trans (keeps_charge _ _ _)

theorem keeps_secondary (cb : Byte) : Keeps s (secondary cb s) := by
  unfold secondary
  dsimp only
  split
  · exact keeps_rotateR8 s _ _
  · exact keeps_bitTestR8 s _ _
  · exact keeps_bitResR8 s _ _
  · exact keeps_bitSetR8 s _ _

/-- Every instruction keeps it. -/
theorem keeps_formEffect (f : Form) : Keeps s (formEffect f s) := by
  cases f with
  | ld dst src => exact ((keeps_readR8 s _).trans (keeps_writeR8 _ _ _)).trans (keeps_charge _ _ _)
  | ldImm dst v => exact (keeps_writeR8 s _ _).trans (keeps_charge _ _ _)
  | ldA m =>
    exact (((keeps_readByte s _).trans (keeps_setA _ _)).trans (keeps_memAfter _ _)).trans (keeps_charge _ _ _)
  | stA m => exact ((keeps_writeByte s _ _).trans (keeps_memAfter _ _)).trans (keeps_charge _ _ _)
  | ldAbs a => exact ((keeps_readByte s _).trans (keeps_setA _ _)).trans (keeps_charge _ _ _)
  | stAbs a => exact (keeps_writeByte s _ _).trans (keeps_charge _ _ _)
  | ldh n => exact ((keeps_readByte s _).trans (keeps_setA _ _)).trans (keeps_charge _ _ _)
  | sth n => exact (keeps_writeByte s _ _).trans (keeps_charge _ _ _)
  | ldC => exact ((keeps_readByte s _).trans (keeps_setA _ _)).trans (keeps_charge _ _ _)
  | stC => exact (keeps_writeByte s _ _).trans (keeps_charge _ _ _)
  | ld16 r v => exact (keeps_writeR16 s _ _).trans (keeps_charge _ _ _)
  | stSp a => exact (keeps_writeWord s _ _).trans (keeps_charge _ _ _)
  | ldSpHl => exact (keeps_setSp s _).trans (keeps_charge _ _ _)
  | pop r => exact ((keeps_pop16 s).trans (keeps_writeStk _ _ _)).trans (keeps_charge _ _ _)
  | push r => exact (keeps_push16 s _).trans (keeps_charge _ _ _)
  | alu op src => exact ((keeps_readR8 s _).trans (keeps_aluWriteBack _ _ _)).trans (keeps_charge _ _ _)
  | aluImm op v => exact (keeps_aluWriteBack s _ _).trans (keeps_charge _ _ _)
  | inc8 dst =>
    exact (((keeps_readR8 s _).trans (keeps_writeR8 _ _ _)).trans (keeps_setFlags _ _ _ _ _)).trans (keeps_charge _ _ _)
  | dec8 dst =>
    exact (((keeps_readR8 s _).trans (keeps_writeR8 _ _ _)).trans (keeps_setFlags _ _ _ _ _)).trans (keeps_charge _ _ _)
  | daa => exact ((keeps_setA s _).trans (keeps_setFlags _ _ _ _ _)).trans (keeps_charge _ _ _)
  | cpl => exact ((keeps_setA s _).trans (keeps_setFlags _ _ _ _ _)).trans (keeps_charge _ _ _)
  | scf => exact (keeps_setFlags s _ _ _ _).trans (keeps_charge _ _ _)
  | ccf => exact (keeps_setFlags s _ _ _ _).trans (keeps_charge _ _ _)
  | inc16 r => exact (keeps_writeR16 s _ _).trans (keeps_charge _ _ _)
  | dec16 r => exact (keeps_writeR16 s _ _).trans (keeps_charge _ _ _)
  | addHl r => exact ((keeps_setHl s _).trans (keeps_setFlags _ _ _ _ _)).trans (keeps_charge _ _ _)
  | addSp e => exact ((keeps_setSp s _).trans (keeps_setFlags _ _ _ _ _)).trans (keeps_charge _ _ _)
  | ldHlSp e => exact ((keeps_setHl s _).trans (keeps_setFlags _ _ _ _ _)).trans (keeps_charge _ _ _)
  | rotA k => exact ((keeps_setA s _).trans (keeps_setFlags _ _ _ _ _)).trans (keeps_charge _ _ _)
  | rot k o => exact keeps_rotateR8 s k o
  | bit b o => exact keeps_bitTestR8 s b o
  | res b o => exact keeps_bitResR8 s b o
  | set b o => exact keeps_bitSetR8 s b o
  | jp a => exact (keeps_setPc s _).trans (keeps_charge _ _ _)
  | jpCc cc a =>
    show Keeps s (jumpAbsCc cc a s)
    unfold jumpAbsCc
    split
    · exact (keeps_setPc s _).trans (keeps_charge _ _ _)
    · exact keeps_charge s _ _
  | jpHl => exact (keeps_setPc s _).trans (keeps_charge _ _ _)
  | jr e => exact (keeps_setPc s _).trans (keeps_charge _ _ _)
  | jrCc cc e =>
    show Keeps s (jumpRelCc cc e s)
    unfold jumpRelCc
    split
    · exact (keeps_setPc s _).trans (keeps_charge _ _ _)
    · exact keeps_charge s _ _
  | call a => exact ((keeps_push16 s _).trans (keeps_setPc _ _)).trans (keeps_charge _ _ _)
  | callCc cc a =>
    show Keeps s (callAbsCc cc a s)
    unfold callAbsCc
    split
    · exact ((keeps_push16 s _).trans (keeps_setPc _ _)).trans (keeps_charge _ _ _)
    · exact keeps_charge s _ _
  | ret => exact ((keeps_pop16 s).trans (keeps_setPc _ _)).trans (keeps_charge _ _ _)
  | retCc cc =>
    show Keeps s (returnCc cc s)
    unfold returnCc
    split
    · exact ((keeps_pop16 s).trans (keeps_setPc _ _)).trans (keeps_charge _ _ _)
    · exact keeps_charge s _ _
  | reti => exact (keeps_returnFromInterrupt s).trans (keeps_charge _ _ _)
  | rst t => exact ((keeps_push16 s _).trans (keeps_setPc _ _)).trans (keeps_charge _ _ _)
  | nop => exact keeps_charge s _ _
  | halt =>
    show Keeps s (haltEngine s)
    unfold haltEngine
    repeat' split
    all_goals exact keeps_engine rfl rfl
  | stop v => exact keeps_refl s
  | di => exact keeps_engine rfl rfl
  | ei => exact keeps_engine rfl rfl
  | prefixCb cb => exact keeps_secondary s cb
  | illegal op => exact keeps_engine rfl rfl

end

end Sys2Proof.Machine
end

