-- ==== Sys2Proof/Laws/Engine.lean ====
section
/-! SUPPORT. What an instruction does to the engine's state and what it costs, by its form. -/

namespace Sys2Proof.Machine

/-- The engine after an instruction of a form: only RETI, HALT, DI, EI and the illegal opcodes write it (10_state.md
R27 to R32). -/
def formEngine (f : Form) (s : State) : Engine :=
  match f with
  | .reti => { s.engine with ime := true, imeScheduled := false }
  | .halt => (haltEngine s).engine
  | .di => { s.engine with ime := false, imeScheduled := false }
  | .ei => { s.engine with imeScheduled := true }
  | .illegal op => (raiseLock s .illegalOpcode op s.opAddr).engine
  | _ => s.engine

theorem aluWriteBack_engine (op : AluOp) (x : AluResult) (s : State) : (aluWriteBack op x s).engine = s.engine := by
  unfold aluWriteBack
  split <;> rfl

theorem memAfter_engine (m : R16Mem) (s : State) : (memAfter m s).engine = s.engine := by
  cases m <;> rfl

theorem writeR16_engine (r : R16) (v : Word) (s : State) : (writeR16 r v s).engine = s.engine := by
  cases r <;> rfl

theorem writeStk_engine (r : R16Stk) (v : Word) (s : State) : (writeStk r v s).engine = s.engine := by
  cases r <;> rfl

theorem secondary_engine (cb : Byte) (s : State) : (secondary cb s).engine = s.engine := by
  unfold secondary
  dsimp only
  split <;> simp [rotateR8, bitTestR8, bitResR8, bitSetR8]

/-- What HALT can do to the engine (45_system.md R301). -/
theorem haltEngine_engine (s : State) :
    (haltEngine s).engine = { s.engine with halted := true } ∨
      (haltEngine s).engine = { s.engine with haltBug := true } ∨ (haltEngine s).engine = s.engine := by
  unfold haltEngine
  split
  · exact .inl rfl
  split
  · exact .inl rfl
  split
  · exact .inr (.inl rfl)
  · exact .inr (.inr rfl)

/-- The engine after an instruction, by its form. -/
theorem formEffect_engine (f : Form) (s : State) : (formEffect f s).engine = formEngine f s := by
  cases f with
  | reti => exact (returnFromInterrupt_facts s).2.1
  | halt => rfl
  | di => rfl
  | ei => rfl
  | illegal op => rfl
  | prefixCb cb => exact secondary_engine cb s
  | jpCc cc a => show (jumpAbsCc cc a s).engine = _; unfold jumpAbsCc; split <;> rfl
  | jrCc cc e => show (jumpRelCc cc e s).engine = _; unfold jumpRelCc; split <;> rfl
  | callCc cc a => show (callAbsCc cc a s).engine = _; unfold callAbsCc; split <;> simp [formEngine]
  | retCc cc => show (returnCc cc s).engine = _; unfold returnCc; split <;> simp [formEngine]
  | _ =>
    simp [formEngine, formEffect, loadR8R8, loadR8Imm, loadAMem, storeAMem, loadAAt, storeAAt, loadR16, storeSp,
      ldSpFromHl, popStk, pushStk, aluR8, aluImm, incR8, decR8, daaA, cplA, scfF, ccfF, incR16, decR16, addHlR16,
      addSpImm, ldHlSpE, rotateA, rotateR8, bitTestR8, bitResR8, bitSetR8, jumpAbs, jumpHl, jumpRel, callAbs,
      returnPlain, restart, noOperation, aluWriteBack_engine, memAfter_engine, writeR16_engine, writeStk_engine]

/-- At least one byte access costs at least `MEM_T`. -/
theorem memT_le_tCycles (p : Params) {n : Nat} (k : Nat) (h : 1 ≤ n) : p.memT ≤ tCycles p n k :=
  Nat.le_trans (by simpa using Nat.mul_le_mul_right p.memT h) (Nat.le_add_right _ _)

/-- A form with an operand makes at least as many byte accesses as the smaller of its two figures. -/
theorem one_le_r8Accesses (o : R8) {m n : Nat} (hm : 1 ≤ m) (hn : 1 ≤ n) : 1 ≤ r8Accesses o m n := by
  unfold r8Accesses
  split <;> assumption

/-- Every instruction that is not STOP costs at least the byte access of its opcode fetch (70_reset_and_hazards.md
R397). -/
theorem formEffect_cost {f : Form} (h : isStop f = false) (s : State) : s.params.memT ≤ (formEffect f s).cost := by
  rw [← (keeps_formEffect s f).params]
  have c : ∀ (u : State) (n k : Nat), 1 ≤ n → (charge u n k).params.memT ≤ (charge u n k).cost :=
    fun u n k hn => memT_le_tCycles u.params k hn
  cases f with
  | stop v => exact absurd h Bool.noConfusion
  | ld dst src => exact c _ _ _ (by split <;> decide)
  | ldImm dst v => exact c _ _ _ (one_le_r8Accesses _ (by decide) (by decide))
  | alu op src => exact c _ _ _ (one_le_r8Accesses _ (by decide) (by decide))
  | inc8 dst => exact c _ _ _ (one_le_r8Accesses _ (by decide) (by decide))
  | dec8 dst => exact c _ _ _ (one_le_r8Accesses _ (by decide) (by decide))
  | rot k o => exact c _ _ _ (one_le_r8Accesses _ (by decide) (by decide))
  | bit b o => exact c _ _ _ (one_le_r8Accesses _ (by decide) (by decide))
  | res b o => exact c _ _ _ (one_le_r8Accesses _ (by decide) (by decide))
  | set b o => exact c _ _ _ (one_le_r8Accesses _ (by decide) (by decide))
  | jpCc cc a =>
    show (jumpAbsCc cc a s).params.memT ≤ (jumpAbsCc cc a s).cost
    unfold jumpAbsCc
    split <;> exact c _ _ _ (by decide)
  | jrCc cc e =>
    show (jumpRelCc cc e s).params.memT ≤ (jumpRelCc cc e s).cost
    unfold jumpRelCc
    split <;> exact c _ _ _ (by decide)
  | callCc cc a =>
    show (callAbsCc cc a s).params.memT ≤ (callAbsCc cc a s).cost
    unfold callAbsCc
    split <;> exact c _ _ _ (by decide)
  | retCc cc =>
    show (returnCc cc s).params.memT ≤ (returnCc cc s).cost
    unfold returnCc
    split <;> exact c _ _ _ (by decide)
  | halt =>
    show (haltEngine s).params.memT ≤ (haltEngine s).cost
    unfold haltEngine
    repeat' split
    all_goals exact c _ _ _ (by decide)
  | prefixCb cb =>
    show (secondary cb s).params.memT ≤ (secondary cb s).cost
    unfold secondary
    dsimp only
    split <;> exact c _ _ _ (one_le_r8Accesses _ (by decide) (by decide))
  | _ => exact c _ _ _ (by decide)

end Sys2Proof.Machine
end

