-- ==== Sys2Proof/Laws/PerInstr.lean ====
section
/-! SUPPORT. One lemma per instruction about its encoding: the length of its bytes is the length its first byte
determines (30_encoding.md R101). -/

namespace Sys2Proof.Laws.EncodeLength

/-- The encoding of an instruction is as long as its first byte says (30_encoding.md R101). -/
def Statement (i : Instr) : Prop := (encode i).length = instrLength ((encode i).headD 0)

theorem nop : Statement .nop :=
  show 1 = instrLength 0x00 from rfl
theorem ldBcD16 (d16 : Word) : Statement (.ldBcD16 d16) :=
  show 3 = instrLength 0x01 from rfl
theorem ldAtBcA : Statement .ldAtBcA :=
  show 1 = instrLength 0x02 from rfl
theorem incBc : Statement .incBc :=
  show 1 = instrLength 0x03 from rfl
theorem incB : Statement .incB :=
  show 1 = instrLength 0x04 from rfl
theorem decB : Statement .decB :=
  show 1 = instrLength 0x05 from rfl
theorem ldBD8 (d8 : Byte) : Statement (.ldBD8 d8) :=
  show 2 = instrLength 0x06 from rfl
theorem rlca : Statement .rlca :=
  show 1 = instrLength 0x07 from rfl
theorem ldAtA16Sp (a16 : Word) : Statement (.ldAtA16Sp a16) :=
  show 3 = instrLength 0x08 from rfl
theorem addHlBc : Statement .addHlBc :=
  show 1 = instrLength 0x09 from rfl
theorem ldAAtBc : Statement .ldAAtBc :=
  show 1 = instrLength 0x0A from rfl
theorem decBc : Statement .decBc :=
  show 1 = instrLength 0x0B from rfl
theorem incC : Statement .incC :=
  show 1 = instrLength 0x0C from rfl
theorem decC : Statement .decC :=
  show 1 = instrLength 0x0D from rfl
theorem ldCD8 (d8 : Byte) : Statement (.ldCD8 d8) :=
  show 2 = instrLength 0x0E from rfl
theorem rrca : Statement .rrca :=
  show 1 = instrLength 0x0F from rfl
theorem stop (ignored : Byte) : Statement (.stop ignored) :=
  show 2 = instrLength 0x10 from rfl
theorem ldDeD16 (d16 : Word) : Statement (.ldDeD16 d16) :=
  show 3 = instrLength 0x11 from rfl
theorem ldAtDeA : Statement .ldAtDeA :=
  show 1 = instrLength 0x12 from rfl
theorem incDe : Statement .incDe :=
  show 1 = instrLength 0x13 from rfl
theorem incD : Statement .incD :=
  show 1 = instrLength 0x14 from rfl
theorem decD : Statement .decD :=
  show 1 = instrLength 0x15 from rfl
theorem ldDD8 (d8 : Byte) : Statement (.ldDD8 d8) :=
  show 2 = instrLength 0x16 from rfl
theorem rla : Statement .rla :=
  show 1 = instrLength 0x17 from rfl
theorem jrE8 (e8 : Byte) : Statement (.jrE8 e8) :=
  show 2 = instrLength 0x18 from rfl
theorem addHlDe : Statement .addHlDe :=
  show 1 = instrLength 0x19 from rfl
theorem ldAAtDe : Statement .ldAAtDe :=
  show 1 = instrLength 0x1A from rfl
theorem decDe : Statement .decDe :=
  show 1 = instrLength 0x1B from rfl
theorem incE : Statement .incE :=
  show 1 = instrLength 0x1C from rfl
theorem decE : Statement .decE :=
  show 1 = instrLength 0x1D from rfl
theorem ldED8 (d8 : Byte) : Statement (.ldED8 d8) :=
  show 2 = instrLength 0x1E from rfl
theorem rra : Statement .rra :=
  show 1 = instrLength 0x1F from rfl
theorem jrNzE8 (e8 : Byte) : Statement (.jrNzE8 e8) :=
  show 2 = instrLength 0x20 from rfl
theorem ldHlD16 (d16 : Word) : Statement (.ldHlD16 d16) :=
  show 3 = instrLength 0x21 from rfl
theorem ldAtHlIncA : Statement .ldAtHlIncA :=
  show 1 = instrLength 0x22 from rfl
theorem incHl : Statement .incHl :=
  show 1 = instrLength 0x23 from rfl
theorem incH : Statement .incH :=
  show 1 = instrLength 0x24 from rfl
theorem decH : Statement .decH :=
  show 1 = instrLength 0x25 from rfl
theorem ldHD8 (d8 : Byte) : Statement (.ldHD8 d8) :=
  show 2 = instrLength 0x26 from rfl
theorem daa : Statement .daa :=
  show 1 = instrLength 0x27 from rfl
theorem jrZE8 (e8 : Byte) : Statement (.jrZE8 e8) :=
  show 2 = instrLength 0x28 from rfl
theorem addHlHl : Statement .addHlHl :=
  show 1 = instrLength 0x29 from rfl
theorem ldAAtHlInc : Statement .ldAAtHlInc :=
  show 1 = instrLength 0x2A from rfl
theorem decHl : Statement .decHl :=
  show 1 = instrLength 0x2B from rfl
theorem incL : Statement .incL :=
  show 1 = instrLength 0x2C from rfl
theorem decL : Statement .decL :=
  show 1 = instrLength 0x2D from rfl
theorem ldLD8 (d8 : Byte) : Statement (.ldLD8 d8) :=
  show 2 = instrLength 0x2E from rfl
theorem cpl : Statement .cpl :=
  show 1 = instrLength 0x2F from rfl
theorem jrNcE8 (e8 : Byte) : Statement (.jrNcE8 e8) :=
  show 2 = instrLength 0x30 from rfl
theorem ldSpD16 (d16 : Word) : Statement (.ldSpD16 d16) :=
  show 3 = instrLength 0x31 from rfl
theorem ldAtHlDecA : Statement .ldAtHlDecA :=
  show 1 = instrLength 0x32 from rfl
theorem incSp : Statement .incSp :=
  show 1 = instrLength 0x33 from rfl
theorem incAtHl : Statement .incAtHl :=
  show 1 = instrLength 0x34 from rfl
theorem decAtHl : Statement .decAtHl :=
  show 1 = instrLength 0x35 from rfl
theorem ldAtHlD8 (d8 : Byte) : Statement (.ldAtHlD8 d8) :=
  show 2 = instrLength 0x36 from rfl
theorem scf : Statement .scf :=
  show 1 = instrLength 0x37 from rfl
theorem jrCE8 (e8 : Byte) : Statement (.jrCE8 e8) :=
  show 2 = instrLength 0x38 from rfl
theorem addHlSp : Statement .addHlSp :=
  show 1 = instrLength 0x39 from rfl
theorem ldAAtHlDec : Statement .ldAAtHlDec :=
  show 1 = instrLength 0x3A from rfl
theorem decSp : Statement .decSp :=
  show 1 = instrLength 0x3B from rfl
theorem incA : Statement .incA :=
  show 1 = instrLength 0x3C from rfl
theorem decA : Statement .decA :=
  show 1 = instrLength 0x3D from rfl
theorem ldAD8 (d8 : Byte) : Statement (.ldAD8 d8) :=
  show 2 = instrLength 0x3E from rfl
theorem ccf : Statement .ccf :=
  show 1 = instrLength 0x3F from rfl
theorem ldBB : Statement .ldBB :=
  show 1 = instrLength 0x40 from rfl
theorem ldBC : Statement .ldBC :=
  show 1 = instrLength 0x41 from rfl
theorem ldBD : Statement .ldBD :=
  show 1 = instrLength 0x42 from rfl
theorem ldBE : Statement .ldBE :=
  show 1 = instrLength 0x43 from rfl
theorem ldBH : Statement .ldBH :=
  show 1 = instrLength 0x44 from rfl
theorem ldBL : Statement .ldBL :=
  show 1 = instrLength 0x45 from rfl
theorem ldBAtHl : Statement .ldBAtHl :=
  show 1 = instrLength 0x46 from rfl
theorem ldBA : Statement .ldBA :=
  show 1 = instrLength 0x47 from rfl
theorem ldCB : Statement .ldCB :=
  show 1 = instrLength 0x48 from rfl
theorem ldCC : Statement .ldCC :=
  show 1 = instrLength 0x49 from rfl
theorem ldCD : Statement .ldCD :=
  show 1 = instrLength 0x4A from rfl
theorem ldCE : Statement .ldCE :=
  show 1 = instrLength 0x4B from rfl
theorem ldCH : Statement .ldCH :=
  show 1 = instrLength 0x4C from rfl
theorem ldCL : Statement .ldCL :=
  show 1 = instrLength 0x4D from rfl
theorem ldCAtHl : Statement .ldCAtHl :=
  show 1 = instrLength 0x4E from rfl
theorem ldCA : Statement .ldCA :=
  show 1 = instrLength 0x4F from rfl
theorem ldDB : Statement .ldDB :=
  show 1 = instrLength 0x50 from rfl
theorem ldDC : Statement .ldDC :=
  show 1 = instrLength 0x51 from rfl
theorem ldDD : Statement .ldDD :=
  show 1 = instrLength 0x52 from rfl
theorem ldDE : Statement .ldDE :=
  show 1 = instrLength 0x53 from rfl
theorem ldDH : Statement .ldDH :=
  show 1 = instrLength 0x54 from rfl
theorem ldDL : Statement .ldDL :=
  show 1 = instrLength 0x55 from rfl
theorem ldDAtHl : Statement .ldDAtHl :=
  show 1 = instrLength 0x56 from rfl
theorem ldDA : Statement .ldDA :=
  show 1 = instrLength 0x57 from rfl
theorem ldEB : Statement .ldEB :=
  show 1 = instrLength 0x58 from rfl
theorem ldEC : Statement .ldEC :=
  show 1 = instrLength 0x59 from rfl
theorem ldED : Statement .ldED :=
  show 1 = instrLength 0x5A from rfl
theorem ldEE : Statement .ldEE :=
  show 1 = instrLength 0x5B from rfl
theorem ldEH : Statement .ldEH :=
  show 1 = instrLength 0x5C from rfl
theorem ldEL : Statement .ldEL :=
  show 1 = instrLength 0x5D from rfl
theorem ldEAtHl : Statement .ldEAtHl :=
  show 1 = instrLength 0x5E from rfl
theorem ldEA : Statement .ldEA :=
  show 1 = instrLength 0x5F from rfl
theorem ldHB : Statement .ldHB :=
  show 1 = instrLength 0x60 from rfl
theorem ldHC : Statement .ldHC :=
  show 1 = instrLength 0x61 from rfl
theorem ldHD : Statement .ldHD :=
  show 1 = instrLength 0x62 from rfl
theorem ldHE : Statement .ldHE :=
  show 1 = instrLength 0x63 from rfl
theorem ldHH : Statement .ldHH :=
  show 1 = instrLength 0x64 from rfl
theorem ldHL : Statement .ldHL :=
  show 1 = instrLength 0x65 from rfl
theorem ldHAtHl : Statement .ldHAtHl :=
  show 1 = instrLength 0x66 from rfl
theorem ldHA : Statement .ldHA :=
  show 1 = instrLength 0x67 from rfl
theorem ldLB : Statement .ldLB :=
  show 1 = instrLength 0x68 from rfl
theorem ldLC : Statement .ldLC :=
  show 1 = instrLength 0x69 from rfl
theorem ldLD : Statement .ldLD :=
  show 1 = instrLength 0x6A from rfl
theorem ldLE : Statement .ldLE :=
  show 1 = instrLength 0x6B from rfl
theorem ldLH : Statement .ldLH :=
  show 1 = instrLength 0x6C from rfl
theorem ldLL : Statement .ldLL :=
  show 1 = instrLength 0x6D from rfl
theorem ldLAtHl : Statement .ldLAtHl :=
  show 1 = instrLength 0x6E from rfl
theorem ldLA : Statement .ldLA :=
  show 1 = instrLength 0x6F from rfl
theorem ldAtHlB : Statement .ldAtHlB :=
  show 1 = instrLength 0x70 from rfl
theorem ldAtHlC : Statement .ldAtHlC :=
  show 1 = instrLength 0x71 from rfl
theorem ldAtHlD : Statement .ldAtHlD :=
  show 1 = instrLength 0x72 from rfl
theorem ldAtHlE : Statement .ldAtHlE :=
  show 1 = instrLength 0x73 from rfl
theorem ldAtHlH : Statement .ldAtHlH :=
  show 1 = instrLength 0x74 from rfl
theorem ldAtHlL : Statement .ldAtHlL :=
  show 1 = instrLength 0x75 from rfl
theorem halt : Statement .halt :=
  show 1 = instrLength 0x76 from rfl
theorem ldAtHlA : Statement .ldAtHlA :=
  show 1 = instrLength 0x77 from rfl
theorem ldAB : Statement .ldAB :=
  show 1 = instrLength 0x78 from rfl
theorem ldAC : Statement .ldAC :=
  show 1 = instrLength 0x79 from rfl
theorem ldAD : Statement .ldAD :=
  show 1 = instrLength 0x7A from rfl
theorem ldAE : Statement .ldAE :=
  show 1 = instrLength 0x7B from rfl
theorem ldAH : Statement .ldAH :=
  show 1 = instrLength 0x7C from rfl
theorem ldAL : Statement .ldAL :=
  show 1 = instrLength 0x7D from rfl
theorem ldAAtHl : Statement .ldAAtHl :=
  show 1 = instrLength 0x7E from rfl
theorem ldAA : Statement .ldAA :=
  show 1 = instrLength 0x7F from rfl
theorem addAB : Statement .addAB :=
  show 1 = instrLength 0x80 from rfl
theorem addAC : Statement .addAC :=
  show 1 = instrLength 0x81 from rfl
theorem addAD : Statement .addAD :=
  show 1 = instrLength 0x82 from rfl
theorem addAE : Statement .addAE :=
  show 1 = instrLength 0x83 from rfl
theorem addAH : Statement .addAH :=
  show 1 = instrLength 0x84 from rfl
theorem addAL : Statement .addAL :=
  show 1 = instrLength 0x85 from rfl
theorem addAAtHl : Statement .addAAtHl :=
  show 1 = instrLength 0x86 from rfl
theorem addAA : Statement .addAA :=
  show 1 = instrLength 0x87 from rfl
theorem adcAB : Statement .adcAB :=
  show 1 = instrLength 0x88 from rfl
theorem adcAC : Statement .adcAC :=
  show 1 = instrLength 0x89 from rfl
theorem adcAD : Statement .adcAD :=
  show 1 = instrLength 0x8A from rfl
theorem adcAE : Statement .adcAE :=
  show 1 = instrLength 0x8B from rfl
theorem adcAH : Statement .adcAH :=
  show 1 = instrLength 0x8C from rfl
theorem adcAL : Statement .adcAL :=
  show 1 = instrLength 0x8D from rfl
theorem adcAAtHl : Statement .adcAAtHl :=
  show 1 = instrLength 0x8E from rfl
theorem adcAA : Statement .adcAA :=
  show 1 = instrLength 0x8F from rfl
theorem subAB : Statement .subAB :=
  show 1 = instrLength 0x90 from rfl
theorem subAC : Statement .subAC :=
  show 1 = instrLength 0x91 from rfl
theorem subAD : Statement .subAD :=
  show 1 = instrLength 0x92 from rfl
theorem subAE : Statement .subAE :=
  show 1 = instrLength 0x93 from rfl
theorem subAH : Statement .subAH :=
  show 1 = instrLength 0x94 from rfl
theorem subAL : Statement .subAL :=
  show 1 = instrLength 0x95 from rfl
theorem subAAtHl : Statement .subAAtHl :=
  show 1 = instrLength 0x96 from rfl
theorem subAA : Statement .subAA :=
  show 1 = instrLength 0x97 from rfl
theorem sbcAB : Statement .sbcAB :=
  show 1 = instrLength 0x98 from rfl
theorem sbcAC : Statement .sbcAC :=
  show 1 = instrLength 0x99 from rfl
theorem sbcAD : Statement .sbcAD :=
  show 1 = instrLength 0x9A from rfl
theorem sbcAE : Statement .sbcAE :=
  show 1 = instrLength 0x9B from rfl
theorem sbcAH : Statement .sbcAH :=
  show 1 = instrLength 0x9C from rfl
theorem sbcAL : Statement .sbcAL :=
  show 1 = instrLength 0x9D from rfl
theorem sbcAAtHl : Statement .sbcAAtHl :=
  show 1 = instrLength 0x9E from rfl
theorem sbcAA : Statement .sbcAA :=
  show 1 = instrLength 0x9F from rfl
theorem andAB : Statement .andAB :=
  show 1 = instrLength 0xA0 from rfl
theorem andAC : Statement .andAC :=
  show 1 = instrLength 0xA1 from rfl
theorem andAD : Statement .andAD :=
  show 1 = instrLength 0xA2 from rfl
theorem andAE : Statement .andAE :=
  show 1 = instrLength 0xA3 from rfl
theorem andAH : Statement .andAH :=
  show 1 = instrLength 0xA4 from rfl
theorem andAL : Statement .andAL :=
  show 1 = instrLength 0xA5 from rfl
theorem andAAtHl : Statement .andAAtHl :=
  show 1 = instrLength 0xA6 from rfl
theorem andAA : Statement .andAA :=
  show 1 = instrLength 0xA7 from rfl
theorem xorAB : Statement .xorAB :=
  show 1 = instrLength 0xA8 from rfl
theorem xorAC : Statement .xorAC :=
  show 1 = instrLength 0xA9 from rfl
theorem xorAD : Statement .xorAD :=
  show 1 = instrLength 0xAA from rfl
theorem xorAE : Statement .xorAE :=
  show 1 = instrLength 0xAB from rfl
theorem xorAH : Statement .xorAH :=
  show 1 = instrLength 0xAC from rfl
theorem xorAL : Statement .xorAL :=
  show 1 = instrLength 0xAD from rfl
theorem xorAAtHl : Statement .xorAAtHl :=
  show 1 = instrLength 0xAE from rfl
theorem xorAA : Statement .xorAA :=
  show 1 = instrLength 0xAF from rfl
theorem orAB : Statement .orAB :=
  show 1 = instrLength 0xB0 from rfl
theorem orAC : Statement .orAC :=
  show 1 = instrLength 0xB1 from rfl
theorem orAD : Statement .orAD :=
  show 1 = instrLength 0xB2 from rfl
theorem orAE : Statement .orAE :=
  show 1 = instrLength 0xB3 from rfl
theorem orAH : Statement .orAH :=
  show 1 = instrLength 0xB4 from rfl
theorem orAL : Statement .orAL :=
  show 1 = instrLength 0xB5 from rfl
theorem orAAtHl : Statement .orAAtHl :=
  show 1 = instrLength 0xB6 from rfl
theorem orAA : Statement .orAA :=
  show 1 = instrLength 0xB7 from rfl
theorem cpAB : Statement .cpAB :=
  show 1 = instrLength 0xB8 from rfl
theorem cpAC : Statement .cpAC :=
  show 1 = instrLength 0xB9 from rfl
theorem cpAD : Statement .cpAD :=
  show 1 = instrLength 0xBA from rfl
theorem cpAE : Statement .cpAE :=
  show 1 = instrLength 0xBB from rfl
theorem cpAH : Statement .cpAH :=
  show 1 = instrLength 0xBC from rfl
theorem cpAL : Statement .cpAL :=
  show 1 = instrLength 0xBD from rfl
theorem cpAAtHl : Statement .cpAAtHl :=
  show 1 = instrLength 0xBE from rfl
theorem cpAA : Statement .cpAA :=
  show 1 = instrLength 0xBF from rfl
theorem retNz : Statement .retNz :=
  show 1 = instrLength 0xC0 from rfl
theorem popBc : Statement .popBc :=
  show 1 = instrLength 0xC1 from rfl
theorem jpNzA16 (a16 : Word) : Statement (.jpNzA16 a16) :=
  show 3 = instrLength 0xC2 from rfl
theorem jpA16 (a16 : Word) : Statement (.jpA16 a16) :=
  show 3 = instrLength 0xC3 from rfl
theorem callNzA16 (a16 : Word) : Statement (.callNzA16 a16) :=
  show 3 = instrLength 0xC4 from rfl
theorem pushBc : Statement .pushBc :=
  show 1 = instrLength 0xC5 from rfl
theorem addAD8 (d8 : Byte) : Statement (.addAD8 d8) :=
  show 2 = instrLength 0xC6 from rfl
theorem rst00 : Statement .rst00 :=
  show 1 = instrLength 0xC7 from rfl
theorem retZ : Statement .retZ :=
  show 1 = instrLength 0xC8 from rfl
theorem ret : Statement .ret :=
  show 1 = instrLength 0xC9 from rfl
theorem jpZA16 (a16 : Word) : Statement (.jpZA16 a16) :=
  show 3 = instrLength 0xCA from rfl
theorem prefixCb (cb : Byte) : Statement (.prefixCb cb) :=
  show 2 = instrLength 0xCB from rfl
theorem callZA16 (a16 : Word) : Statement (.callZA16 a16) :=
  show 3 = instrLength 0xCC from rfl
theorem callA16 (a16 : Word) : Statement (.callA16 a16) :=
  show 3 = instrLength 0xCD from rfl
theorem adcAD8 (d8 : Byte) : Statement (.adcAD8 d8) :=
  show 2 = instrLength 0xCE from rfl
theorem rst08 : Statement .rst08 :=
  show 1 = instrLength 0xCF from rfl
theorem retNc : Statement .retNc :=
  show 1 = instrLength 0xD0 from rfl
theorem popDe : Statement .popDe :=
  show 1 = instrLength 0xD1 from rfl
theorem jpNcA16 (a16 : Word) : Statement (.jpNcA16 a16) :=
  show 3 = instrLength 0xD2 from rfl
theorem illegalD3 : Statement .illegalD3 :=
  show 1 = instrLength 0xD3 from rfl
theorem callNcA16 (a16 : Word) : Statement (.callNcA16 a16) :=
  show 3 = instrLength 0xD4 from rfl
theorem pushDe : Statement .pushDe :=
  show 1 = instrLength 0xD5 from rfl
theorem subAD8 (d8 : Byte) : Statement (.subAD8 d8) :=
  show 2 = instrLength 0xD6 from rfl
theorem rst10 : Statement .rst10 :=
  show 1 = instrLength 0xD7 from rfl
theorem retC : Statement .retC :=
  show 1 = instrLength 0xD8 from rfl
theorem reti : Statement .reti :=
  show 1 = instrLength 0xD9 from rfl
theorem jpCA16 (a16 : Word) : Statement (.jpCA16 a16) :=
  show 3 = instrLength 0xDA from rfl
theorem illegalDB : Statement .illegalDB :=
  show 1 = instrLength 0xDB from rfl
theorem callCA16 (a16 : Word) : Statement (.callCA16 a16) :=
  show 3 = instrLength 0xDC from rfl
theorem illegalDD : Statement .illegalDD :=
  show 1 = instrLength 0xDD from rfl
theorem sbcAD8 (d8 : Byte) : Statement (.sbcAD8 d8) :=
  show 2 = instrLength 0xDE from rfl
theorem rst18 : Statement .rst18 :=
  show 1 = instrLength 0xDF from rfl
theorem ldhAtA8A (a8 : Byte) : Statement (.ldhAtA8A a8) :=
  show 2 = instrLength 0xE0 from rfl
theorem popHl : Statement .popHl :=
  show 1 = instrLength 0xE1 from rfl
theorem ldAtCA : Statement .ldAtCA :=
  show 1 = instrLength 0xE2 from rfl
theorem illegalE3 : Statement .illegalE3 :=
  show 1 = instrLength 0xE3 from rfl
theorem illegalE4 : Statement .illegalE4 :=
  show 1 = instrLength 0xE4 from rfl
theorem pushHl : Statement .pushHl :=
  show 1 = instrLength 0xE5 from rfl
theorem andAD8 (d8 : Byte) : Statement (.andAD8 d8) :=
  show 2 = instrLength 0xE6 from rfl
theorem rst20 : Statement .rst20 :=
  show 1 = instrLength 0xE7 from rfl
theorem addSpE8 (e8 : Byte) : Statement (.addSpE8 e8) :=
  show 2 = instrLength 0xE8 from rfl
theorem jpHl : Statement .jpHl :=
  show 1 = instrLength 0xE9 from rfl
theorem ldAtA16A (a16 : Word) : Statement (.ldAtA16A a16) :=
  show 3 = instrLength 0xEA from rfl
theorem illegalEB : Statement .illegalEB :=
  show 1 = instrLength 0xEB from rfl
theorem illegalEC : Statement .illegalEC :=
  show 1 = instrLength 0xEC from rfl
theorem illegalED : Statement .illegalED :=
  show 1 = instrLength 0xED from rfl
theorem xorAD8 (d8 : Byte) : Statement (.xorAD8 d8) :=
  show 2 = instrLength 0xEE from rfl
theorem rst28 : Statement .rst28 :=
  show 1 = instrLength 0xEF from rfl
theorem ldhAAtA8 (a8 : Byte) : Statement (.ldhAAtA8 a8) :=
  show 2 = instrLength 0xF0 from rfl
theorem popAf : Statement .popAf :=
  show 1 = instrLength 0xF1 from rfl
theorem ldAAtC : Statement .ldAAtC :=
  show 1 = instrLength 0xF2 from rfl
theorem di : Statement .di :=
  show 1 = instrLength 0xF3 from rfl
theorem illegalF4 : Statement .illegalF4 :=
  show 1 = instrLength 0xF4 from rfl
theorem pushAf : Statement .pushAf :=
  show 1 = instrLength 0xF5 from rfl
theorem orAD8 (d8 : Byte) : Statement (.orAD8 d8) :=
  show 2 = instrLength 0xF6 from rfl
theorem rst30 : Statement .rst30 :=
  show 1 = instrLength 0xF7 from rfl
theorem ldHlSpE8 (e8 : Byte) : Statement (.ldHlSpE8 e8) :=
  show 2 = instrLength 0xF8 from rfl
theorem ldSpHl : Statement .ldSpHl :=
  show 1 = instrLength 0xF9 from rfl
theorem ldAAtA16 (a16 : Word) : Statement (.ldAAtA16 a16) :=
  show 3 = instrLength 0xFA from rfl
theorem ei : Statement .ei :=
  show 1 = instrLength 0xFB from rfl
theorem illegalFC : Statement .illegalFC :=
  show 1 = instrLength 0xFC from rfl
theorem illegalFD : Statement .illegalFD :=
  show 1 = instrLength 0xFD from rfl
theorem cpAD8 (d8 : Byte) : Statement (.cpAD8 d8) :=
  show 2 = instrLength 0xFE from rfl
theorem rst38 : Statement .rst38 :=
  show 1 = instrLength 0xFF from rfl
theorem rlcB : Statement .rlcB :=
  show 2 = instrLength 0xCB from rfl
theorem rlcC : Statement .rlcC :=
  show 2 = instrLength 0xCB from rfl
theorem rlcD : Statement .rlcD :=
  show 2 = instrLength 0xCB from rfl
theorem rlcE : Statement .rlcE :=
  show 2 = instrLength 0xCB from rfl
theorem rlcH : Statement .rlcH :=
  show 2 = instrLength 0xCB from rfl
theorem rlcL : Statement .rlcL :=
  show 2 = instrLength 0xCB from rfl
theorem rlcAtHl : Statement .rlcAtHl :=
  show 2 = instrLength 0xCB from rfl
theorem rlcA : Statement .rlcA :=
  show 2 = instrLength 0xCB from rfl
theorem rrcB : Statement .rrcB :=
  show 2 = instrLength 0xCB from rfl
theorem rrcC : Statement .rrcC :=
  show 2 = instrLength 0xCB from rfl
theorem rrcD : Statement .rrcD :=
  show 2 = instrLength 0xCB from rfl
theorem rrcE : Statement .rrcE :=
  show 2 = instrLength 0xCB from rfl
theorem rrcH : Statement .rrcH :=
  show 2 = instrLength 0xCB from rfl
theorem rrcL : Statement .rrcL :=
  show 2 = instrLength 0xCB from rfl
theorem rrcAtHl : Statement .rrcAtHl :=
  show 2 = instrLength 0xCB from rfl
theorem rrcA : Statement .rrcA :=
  show 2 = instrLength 0xCB from rfl
theorem rlB : Statement .rlB :=
  show 2 = instrLength 0xCB from rfl
theorem rlC : Statement .rlC :=
  show 2 = instrLength 0xCB from rfl
theorem rlD : Statement .rlD :=
  show 2 = instrLength 0xCB from rfl
theorem rlE : Statement .rlE :=
  show 2 = instrLength 0xCB from rfl
theorem rlH : Statement .rlH :=
  show 2 = instrLength 0xCB from rfl
theorem rlL : Statement .rlL :=
  show 2 = instrLength 0xCB from rfl
theorem rlAtHl : Statement .rlAtHl :=
  show 2 = instrLength 0xCB from rfl
theorem rlA : Statement .rlA :=
  show 2 = instrLength 0xCB from rfl
theorem rrB : Statement .rrB :=
  show 2 = instrLength 0xCB from rfl
theorem rrC : Statement .rrC :=
  show 2 = instrLength 0xCB from rfl
theorem rrD : Statement .rrD :=
  show 2 = instrLength 0xCB from rfl
theorem rrE : Statement .rrE :=
  show 2 = instrLength 0xCB from rfl
theorem rrH : Statement .rrH :=
  show 2 = instrLength 0xCB from rfl
theorem rrL : Statement .rrL :=
  show 2 = instrLength 0xCB from rfl
theorem rrAtHl : Statement .rrAtHl :=
  show 2 = instrLength 0xCB from rfl
theorem rrA : Statement .rrA :=
  show 2 = instrLength 0xCB from rfl
theorem slaB : Statement .slaB :=
  show 2 = instrLength 0xCB from rfl
theorem slaC : Statement .slaC :=
  show 2 = instrLength 0xCB from rfl
theorem slaD : Statement .slaD :=
  show 2 = instrLength 0xCB from rfl
theorem slaE : Statement .slaE :=
  show 2 = instrLength 0xCB from rfl
theorem slaH : Statement .slaH :=
  show 2 = instrLength 0xCB from rfl
theorem slaL : Statement .slaL :=
  show 2 = instrLength 0xCB from rfl
theorem slaAtHl : Statement .slaAtHl :=
  show 2 = instrLength 0xCB from rfl
theorem slaA : Statement .slaA :=
  show 2 = instrLength 0xCB from rfl
theorem sraB : Statement .sraB :=
  show 2 = instrLength 0xCB from rfl
theorem sraC : Statement .sraC :=
  show 2 = instrLength 0xCB from rfl
theorem sraD : Statement .sraD :=
  show 2 = instrLength 0xCB from rfl
theorem sraE : Statement .sraE :=
  show 2 = instrLength 0xCB from rfl
theorem sraH : Statement .sraH :=
  show 2 = instrLength 0xCB from rfl
theorem sraL : Statement .sraL :=
  show 2 = instrLength 0xCB from rfl
theorem sraAtHl : Statement .sraAtHl :=
  show 2 = instrLength 0xCB from rfl
theorem sraA : Statement .sraA :=
  show 2 = instrLength 0xCB from rfl
theorem swapB : Statement .swapB :=
  show 2 = instrLength 0xCB from rfl
theorem swapC : Statement .swapC :=
  show 2 = instrLength 0xCB from rfl
theorem swapD : Statement .swapD :=
  show 2 = instrLength 0xCB from rfl
theorem swapE : Statement .swapE :=
  show 2 = instrLength 0xCB from rfl
theorem swapH : Statement .swapH :=
  show 2 = instrLength 0xCB from rfl
theorem swapL : Statement .swapL :=
  show 2 = instrLength 0xCB from rfl
theorem swapAtHl : Statement .swapAtHl :=
  show 2 = instrLength 0xCB from rfl
theorem swapA : Statement .swapA :=
  show 2 = instrLength 0xCB from rfl
theorem srlB : Statement .srlB :=
  show 2 = instrLength 0xCB from rfl
theorem srlC : Statement .srlC :=
  show 2 = instrLength 0xCB from rfl
theorem srlD : Statement .srlD :=
  show 2 = instrLength 0xCB from rfl
theorem srlE : Statement .srlE :=
  show 2 = instrLength 0xCB from rfl
theorem srlH : Statement .srlH :=
  show 2 = instrLength 0xCB from rfl
theorem srlL : Statement .srlL :=
  show 2 = instrLength 0xCB from rfl
theorem srlAtHl : Statement .srlAtHl :=
  show 2 = instrLength 0xCB from rfl
theorem srlA : Statement .srlA :=
  show 2 = instrLength 0xCB from rfl
theorem bit0B : Statement .bit0B :=
  show 2 = instrLength 0xCB from rfl
theorem bit0C : Statement .bit0C :=
  show 2 = instrLength 0xCB from rfl
theorem bit0D : Statement .bit0D :=
  show 2 = instrLength 0xCB from rfl
theorem bit0E : Statement .bit0E :=
  show 2 = instrLength 0xCB from rfl
theorem bit0H : Statement .bit0H :=
  show 2 = instrLength 0xCB from rfl
theorem bit0L : Statement .bit0L :=
  show 2 = instrLength 0xCB from rfl
theorem bit0AtHl : Statement .bit0AtHl :=
  show 2 = instrLength 0xCB from rfl
theorem bit0A : Statement .bit0A :=
  show 2 = instrLength 0xCB from rfl
theorem bit1B : Statement .bit1B :=
  show 2 = instrLength 0xCB from rfl
theorem bit1C : Statement .bit1C :=
  show 2 = instrLength 0xCB from rfl
theorem bit1D : Statement .bit1D :=
  show 2 = instrLength 0xCB from rfl
theorem bit1E : Statement .bit1E :=
  show 2 = instrLength 0xCB from rfl
theorem bit1H : Statement .bit1H :=
  show 2 = instrLength 0xCB from rfl
theorem bit1L : Statement .bit1L :=
  show 2 = instrLength 0xCB from rfl
theorem bit1AtHl : Statement .bit1AtHl :=
  show 2 = instrLength 0xCB from rfl
theorem bit1A : Statement .bit1A :=
  show 2 = instrLength 0xCB from rfl
theorem bit2B : Statement .bit2B :=
  show 2 = instrLength 0xCB from rfl
theorem bit2C : Statement .bit2C :=
  show 2 = instrLength 0xCB from rfl
theorem bit2D : Statement .bit2D :=
  show 2 = instrLength 0xCB from rfl
theorem bit2E : Statement .bit2E :=
  show 2 = instrLength 0xCB from rfl
theorem bit2H : Statement .bit2H :=
  show 2 = instrLength 0xCB from rfl
theorem bit2L : Statement .bit2L :=
  show 2 = instrLength 0xCB from rfl
theorem bit2AtHl : Statement .bit2AtHl :=
  show 2 = instrLength 0xCB from rfl
theorem bit2A : Statement .bit2A :=
  show 2 = instrLength 0xCB from rfl
theorem bit3B : Statement .bit3B :=
  show 2 = instrLength 0xCB from rfl
theorem bit3C : Statement .bit3C :=
  show 2 = instrLength 0xCB from rfl
theorem bit3D : Statement .bit3D :=
  show 2 = instrLength 0xCB from rfl
theorem bit3E : Statement .bit3E :=
  show 2 = instrLength 0xCB from rfl
theorem bit3H : Statement .bit3H :=
  show 2 = instrLength 0xCB from rfl
theorem bit3L : Statement .bit3L :=
  show 2 = instrLength 0xCB from rfl
theorem bit3AtHl : Statement .bit3AtHl :=
  show 2 = instrLength 0xCB from rfl
theorem bit3A : Statement .bit3A :=
  show 2 = instrLength 0xCB from rfl
theorem bit4B : Statement .bit4B :=
  show 2 = instrLength 0xCB from rfl
theorem bit4C : Statement .bit4C :=
  show 2 = instrLength 0xCB from rfl
theorem bit4D : Statement .bit4D :=
  show 2 = instrLength 0xCB from rfl
theorem bit4E : Statement .bit4E :=
  show 2 = instrLength 0xCB from rfl
theorem bit4H : Statement .bit4H :=
  show 2 = instrLength 0xCB from rfl
theorem bit4L : Statement .bit4L :=
  show 2 = instrLength 0xCB from rfl
theorem bit4AtHl : Statement .bit4AtHl :=
  show 2 = instrLength 0xCB from rfl
theorem bit4A : Statement .bit4A :=
  show 2 = instrLength 0xCB from rfl
theorem bit5B : Statement .bit5B :=
  show 2 = instrLength 0xCB from rfl
theorem bit5C : Statement .bit5C :=
  show 2 = instrLength 0xCB from rfl
theorem bit5D : Statement .bit5D :=
  show 2 = instrLength 0xCB from rfl
theorem bit5E : Statement .bit5E :=
  show 2 = instrLength 0xCB from rfl
theorem bit5H : Statement .bit5H :=
  show 2 = instrLength 0xCB from rfl
theorem bit5L : Statement .bit5L :=
  show 2 = instrLength 0xCB from rfl
theorem bit5AtHl : Statement .bit5AtHl :=
  show 2 = instrLength 0xCB from rfl
theorem bit5A : Statement .bit5A :=
  show 2 = instrLength 0xCB from rfl
theorem bit6B : Statement .bit6B :=
  show 2 = instrLength 0xCB from rfl
theorem bit6C : Statement .bit6C :=
  show 2 = instrLength 0xCB from rfl
theorem bit6D : Statement .bit6D :=
  show 2 = instrLength 0xCB from rfl
theorem bit6E : Statement .bit6E :=
  show 2 = instrLength 0xCB from rfl
theorem bit6H : Statement .bit6H :=
  show 2 = instrLength 0xCB from rfl
theorem bit6L : Statement .bit6L :=
  show 2 = instrLength 0xCB from rfl
theorem bit6AtHl : Statement .bit6AtHl :=
  show 2 = instrLength 0xCB from rfl
theorem bit6A : Statement .bit6A :=
  show 2 = instrLength 0xCB from rfl
theorem bit7B : Statement .bit7B :=
  show 2 = instrLength 0xCB from rfl
theorem bit7C : Statement .bit7C :=
  show 2 = instrLength 0xCB from rfl
theorem bit7D : Statement .bit7D :=
  show 2 = instrLength 0xCB from rfl
theorem bit7E : Statement .bit7E :=
  show 2 = instrLength 0xCB from rfl
theorem bit7H : Statement .bit7H :=
  show 2 = instrLength 0xCB from rfl
theorem bit7L : Statement .bit7L :=
  show 2 = instrLength 0xCB from rfl
theorem bit7AtHl : Statement .bit7AtHl :=
  show 2 = instrLength 0xCB from rfl
theorem bit7A : Statement .bit7A :=
  show 2 = instrLength 0xCB from rfl
theorem res0B : Statement .res0B :=
  show 2 = instrLength 0xCB from rfl
theorem res0C : Statement .res0C :=
  show 2 = instrLength 0xCB from rfl
theorem res0D : Statement .res0D :=
  show 2 = instrLength 0xCB from rfl
theorem res0E : Statement .res0E :=
  show 2 = instrLength 0xCB from rfl
theorem res0H : Statement .res0H :=
  show 2 = instrLength 0xCB from rfl
theorem res0L : Statement .res0L :=
  show 2 = instrLength 0xCB from rfl
theorem res0AtHl : Statement .res0AtHl :=
  show 2 = instrLength 0xCB from rfl
theorem res0A : Statement .res0A :=
  show 2 = instrLength 0xCB from rfl
theorem res1B : Statement .res1B :=
  show 2 = instrLength 0xCB from rfl
theorem res1C : Statement .res1C :=
  show 2 = instrLength 0xCB from rfl
theorem res1D : Statement .res1D :=
  show 2 = instrLength 0xCB from rfl
theorem res1E : Statement .res1E :=
  show 2 = instrLength 0xCB from rfl
theorem res1H : Statement .res1H :=
  show 2 = instrLength 0xCB from rfl
theorem res1L : Statement .res1L :=
  show 2 = instrLength 0xCB from rfl
theorem res1AtHl : Statement .res1AtHl :=
  show 2 = instrLength 0xCB from rfl
theorem res1A : Statement .res1A :=
  show 2 = instrLength 0xCB from rfl
theorem res2B : Statement .res2B :=
  show 2 = instrLength 0xCB from rfl
theorem res2C : Statement .res2C :=
  show 2 = instrLength 0xCB from rfl
theorem res2D : Statement .res2D :=
  show 2 = instrLength 0xCB from rfl
theorem res2E : Statement .res2E :=
  show 2 = instrLength 0xCB from rfl
theorem res2H : Statement .res2H :=
  show 2 = instrLength 0xCB from rfl
theorem res2L : Statement .res2L :=
  show 2 = instrLength 0xCB from rfl
theorem res2AtHl : Statement .res2AtHl :=
  show 2 = instrLength 0xCB from rfl
theorem res2A : Statement .res2A :=
  show 2 = instrLength 0xCB from rfl
theorem res3B : Statement .res3B :=
  show 2 = instrLength 0xCB from rfl
theorem res3C : Statement .res3C :=
  show 2 = instrLength 0xCB from rfl
theorem res3D : Statement .res3D :=
  show 2 = instrLength 0xCB from rfl
theorem res3E : Statement .res3E :=
  show 2 = instrLength 0xCB from rfl
theorem res3H : Statement .res3H :=
  show 2 = instrLength 0xCB from rfl
theorem res3L : Statement .res3L :=
  show 2 = instrLength 0xCB from rfl
theorem res3AtHl : Statement .res3AtHl :=
  show 2 = instrLength 0xCB from rfl
theorem res3A : Statement .res3A :=
  show 2 = instrLength 0xCB from rfl
theorem res4B : Statement .res4B :=
  show 2 = instrLength 0xCB from rfl
theorem res4C : Statement .res4C :=
  show 2 = instrLength 0xCB from rfl
theorem res4D : Statement .res4D :=
  show 2 = instrLength 0xCB from rfl
theorem res4E : Statement .res4E :=
  show 2 = instrLength 0xCB from rfl
theorem res4H : Statement .res4H :=
  show 2 = instrLength 0xCB from rfl
theorem res4L : Statement .res4L :=
  show 2 = instrLength 0xCB from rfl
theorem res4AtHl : Statement .res4AtHl :=
  show 2 = instrLength 0xCB from rfl
theorem res4A : Statement .res4A :=
  show 2 = instrLength 0xCB from rfl
theorem res5B : Statement .res5B :=
  show 2 = instrLength 0xCB from rfl
theorem res5C : Statement .res5C :=
  show 2 = instrLength 0xCB from rfl
theorem res5D : Statement .res5D :=
  show 2 = instrLength 0xCB from rfl
theorem res5E : Statement .res5E :=
  show 2 = instrLength 0xCB from rfl
theorem res5H : Statement .res5H :=
  show 2 = instrLength 0xCB from rfl
theorem res5L : Statement .res5L :=
  show 2 = instrLength 0xCB from rfl
theorem res5AtHl : Statement .res5AtHl :=
  show 2 = instrLength 0xCB from rfl
theorem res5A : Statement .res5A :=
  show 2 = instrLength 0xCB from rfl
theorem res6B : Statement .res6B :=
  show 2 = instrLength 0xCB from rfl
theorem res6C : Statement .res6C :=
  show 2 = instrLength 0xCB from rfl
theorem res6D : Statement .res6D :=
  show 2 = instrLength 0xCB from rfl
theorem res6E : Statement .res6E :=
  show 2 = instrLength 0xCB from rfl
theorem res6H : Statement .res6H :=
  show 2 = instrLength 0xCB from rfl
theorem res6L : Statement .res6L :=
  show 2 = instrLength 0xCB from rfl
theorem res6AtHl : Statement .res6AtHl :=
  show 2 = instrLength 0xCB from rfl
theorem res6A : Statement .res6A :=
  show 2 = instrLength 0xCB from rfl
theorem res7B : Statement .res7B :=
  show 2 = instrLength 0xCB from rfl
theorem res7C : Statement .res7C :=
  show 2 = instrLength 0xCB from rfl
theorem res7D : Statement .res7D :=
  show 2 = instrLength 0xCB from rfl
theorem res7E : Statement .res7E :=
  show 2 = instrLength 0xCB from rfl
theorem res7H : Statement .res7H :=
  show 2 = instrLength 0xCB from rfl
theorem res7L : Statement .res7L :=
  show 2 = instrLength 0xCB from rfl
theorem res7AtHl : Statement .res7AtHl :=
  show 2 = instrLength 0xCB from rfl
theorem res7A : Statement .res7A :=
  show 2 = instrLength 0xCB from rfl
theorem set0B : Statement .set0B :=
  show 2 = instrLength 0xCB from rfl
theorem set0C : Statement .set0C :=
  show 2 = instrLength 0xCB from rfl
theorem set0D : Statement .set0D :=
  show 2 = instrLength 0xCB from rfl
theorem set0E : Statement .set0E :=
  show 2 = instrLength 0xCB from rfl
theorem set0H : Statement .set0H :=
  show 2 = instrLength 0xCB from rfl
theorem set0L : Statement .set0L :=
  show 2 = instrLength 0xCB from rfl
theorem set0AtHl : Statement .set0AtHl :=
  show 2 = instrLength 0xCB from rfl
theorem set0A : Statement .set0A :=
  show 2 = instrLength 0xCB from rfl
theorem set1B : Statement .set1B :=
  show 2 = instrLength 0xCB from rfl
theorem set1C : Statement .set1C :=
  show 2 = instrLength 0xCB from rfl
theorem set1D : Statement .set1D :=
  show 2 = instrLength 0xCB from rfl
theorem set1E : Statement .set1E :=
  show 2 = instrLength 0xCB from rfl
theorem set1H : Statement .set1H :=
  show 2 = instrLength 0xCB from rfl
theorem set1L : Statement .set1L :=
  show 2 = instrLength 0xCB from rfl
theorem set1AtHl : Statement .set1AtHl :=
  show 2 = instrLength 0xCB from rfl
theorem set1A : Statement .set1A :=
  show 2 = instrLength 0xCB from rfl
theorem set2B : Statement .set2B :=
  show 2 = instrLength 0xCB from rfl
theorem set2C : Statement .set2C :=
  show 2 = instrLength 0xCB from rfl
theorem set2D : Statement .set2D :=
  show 2 = instrLength 0xCB from rfl
theorem set2E : Statement .set2E :=
  show 2 = instrLength 0xCB from rfl
theorem set2H : Statement .set2H :=
  show 2 = instrLength 0xCB from rfl
theorem set2L : Statement .set2L :=
  show 2 = instrLength 0xCB from rfl
theorem set2AtHl : Statement .set2AtHl :=
  show 2 = instrLength 0xCB from rfl
theorem set2A : Statement .set2A :=
  show 2 = instrLength 0xCB from rfl
theorem set3B : Statement .set3B :=
  show 2 = instrLength 0xCB from rfl
theorem set3C : Statement .set3C :=
  show 2 = instrLength 0xCB from rfl
theorem set3D : Statement .set3D :=
  show 2 = instrLength 0xCB from rfl
theorem set3E : Statement .set3E :=
  show 2 = instrLength 0xCB from rfl
theorem set3H : Statement .set3H :=
  show 2 = instrLength 0xCB from rfl
theorem set3L : Statement .set3L :=
  show 2 = instrLength 0xCB from rfl
theorem set3AtHl : Statement .set3AtHl :=
  show 2 = instrLength 0xCB from rfl
theorem set3A : Statement .set3A :=
  show 2 = instrLength 0xCB from rfl
theorem set4B : Statement .set4B :=
  show 2 = instrLength 0xCB from rfl
theorem set4C : Statement .set4C :=
  show 2 = instrLength 0xCB from rfl
theorem set4D : Statement .set4D :=
  show 2 = instrLength 0xCB from rfl
theorem set4E : Statement .set4E :=
  show 2 = instrLength 0xCB from rfl
theorem set4H : Statement .set4H :=
  show 2 = instrLength 0xCB from rfl
theorem set4L : Statement .set4L :=
  show 2 = instrLength 0xCB from rfl
theorem set4AtHl : Statement .set4AtHl :=
  show 2 = instrLength 0xCB from rfl
theorem set4A : Statement .set4A :=
  show 2 = instrLength 0xCB from rfl
theorem set5B : Statement .set5B :=
  show 2 = instrLength 0xCB from rfl
theorem set5C : Statement .set5C :=
  show 2 = instrLength 0xCB from rfl
theorem set5D : Statement .set5D :=
  show 2 = instrLength 0xCB from rfl
theorem set5E : Statement .set5E :=
  show 2 = instrLength 0xCB from rfl
theorem set5H : Statement .set5H :=
  show 2 = instrLength 0xCB from rfl
theorem set5L : Statement .set5L :=
  show 2 = instrLength 0xCB from rfl
theorem set5AtHl : Statement .set5AtHl :=
  show 2 = instrLength 0xCB from rfl
theorem set5A : Statement .set5A :=
  show 2 = instrLength 0xCB from rfl
theorem set6B : Statement .set6B :=
  show 2 = instrLength 0xCB from rfl
theorem set6C : Statement .set6C :=
  show 2 = instrLength 0xCB from rfl
theorem set6D : Statement .set6D :=
  show 2 = instrLength 0xCB from rfl
theorem set6E : Statement .set6E :=
  show 2 = instrLength 0xCB from rfl
theorem set6H : Statement .set6H :=
  show 2 = instrLength 0xCB from rfl
theorem set6L : Statement .set6L :=
  show 2 = instrLength 0xCB from rfl
theorem set6AtHl : Statement .set6AtHl :=
  show 2 = instrLength 0xCB from rfl
theorem set6A : Statement .set6A :=
  show 2 = instrLength 0xCB from rfl
theorem set7B : Statement .set7B :=
  show 2 = instrLength 0xCB from rfl
theorem set7C : Statement .set7C :=
  show 2 = instrLength 0xCB from rfl
theorem set7D : Statement .set7D :=
  show 2 = instrLength 0xCB from rfl
theorem set7E : Statement .set7E :=
  show 2 = instrLength 0xCB from rfl
theorem set7H : Statement .set7H :=
  show 2 = instrLength 0xCB from rfl
theorem set7L : Statement .set7L :=
  show 2 = instrLength 0xCB from rfl
theorem set7AtHl : Statement .set7AtHl :=
  show 2 = instrLength 0xCB from rfl
theorem set7A : Statement .set7A :=
  show 2 = instrLength 0xCB from rfl

end Sys2Proof.Laws.EncodeLength
end

