-- ==== Sys2Proof/Laws/Sequencer.lean ====
section
/-! SUPPORT. What fetch, the timer, the advances and the step can do, said once (60_exceptions.md R340, R350, R351,
R362 to R366). A proof about a step goes through `executeOne_cases` and `step_cases`. -/

namespace Sys2Proof.Machine

/-! ### Requests and host events -/

section

variable (s : State)

/-- The request-bit setter changes IF alone, and clears no bit (60_exceptions.md R363). -/
theorem requestInterrupts_ifl (m : BitVec 5) (k : Nat) (h : s.irq.ifl.getLsbD k = true) :
    (requestInterrupts s m).irq.ifl.getLsbD k = true := by
  simp [requestInterrupts, h]

theorem keeps_requestInterrupts (m : BitVec 5) : Keeps s (requestInterrupts s m) :=
  ⟨id, id, id, id, rfl, rfl, rfl, rfl, rfl, rfl, rfl, id⟩

@[simp] theorem hostEvents_regs (x : StepInput) : (hostEvents x s).regs = s.regs := rfl
@[simp] theorem hostEvents_engine (x : StepInput) : (hostEvents x s).engine = s.engine := rfl
@[simp] theorem hostEvents_collab (x : StepInput) : (hostEvents x s).collab = s.collab := rfl
@[simp] theorem hostEvents_timer (x : StepInput) : (hostEvents x s).timer = s.timer := rfl
@[simp] theorem hostEvents_mem (x : StepInput) : (hostEvents x s).mem = s.mem := rfl
@[simp] theorem hostEvents_bootRom (x : StepInput) : (hostEvents x s).bootRom = s.bootRom := rfl
@[simp] theorem hostEvents_bootDisabled (x : StepInput) : (hostEvents x s).bootDisabled = s.bootDisabled := rfl
@[simp] theorem hostEvents_params (x : StepInput) : (hostEvents x s).params = s.params := rfl
@[simp] theorem hostEvents_ie (x : StepInput) : (hostEvents x s).irq.ie = s.irq.ie := rfl

theorem keeps_hostEvents (x : StepInput) : Keeps s (hostEvents x s) := keeps_requestInterrupts s _

/-! ### Fetch -/

theorem fetch8_eq : fetch8 s = ((readByte s s.regs.pc).1, setPc (readByte s s.regs.pc).2 (s.regs.pc + 1)) := rfl

@[simp] theorem fetch8_regs : (fetch8 s).2.regs = { s.regs with pc := s.regs.pc + 1 } := by
  rw [fetch8_eq]
  simp [setPc]

@[simp] theorem fetch8_engine : (fetch8 s).2.engine = s.engine := by simp [fetch8_eq]

theorem keeps_fetch8 : Keeps s (fetch8 s).2 := (keeps_readByte s _).trans (keeps_setPc _ _)

theorem fetchMore_length (n : Nat) (s : State) : (fetchMore n s).1.length = n := by
  induction n generalizing s with
  | zero => rfl
  | succ n ih => exact congrArg (· + 1) (ih _)

theorem fetchMore_regs (n : Nat) (s : State) :
    (fetchMore n s).2.regs = { s.regs with pc := s.regs.pc + BitVec.ofNat 16 n } := by
  induction n generalizing s with
  | zero => simp [fetchMore]
  | succ n ih =>
    show (fetchMore n (fetch8 s).2).2.regs = _
    rw [ih, fetch8_regs]
    simp only [BitVec.add_assoc]
    rw [show (1 : Addr) + BitVec.ofNat 16 n = BitVec.ofNat 16 (n + 1) by rw [Nat.add_comm]; exact (BitVec.ofNat_add 1 n).symm]

theorem fetchMore_engine (n : Nat) (s : State) : (fetchMore n s).2.engine = s.engine := by
  induction n generalizing s with
  | zero => rfl
  | succ n ih => exact (ih _).trans (fetch8_engine s)

theorem keeps_fetchMore (n : Nat) (s : State) : Keeps s (fetchMore n s).2 := by
  induction n generalizing s with
  | zero => exact keeps_refl s
  | succ n ih => exact (keeps_fetch8 s).trans (ih _)

theorem fetchInstr_fst :
    (fetchInstr s).1 =
      (readByte s s.regs.pc).1 :: (fetchMore (instrLength (readByte s s.regs.pc).1 - 1) (fetchOpcode s).2).1 := rfl

/-- The bytes fetched are one whole instruction (30_encoding.md R116). -/
theorem fetchInstr_decodes : ∃ i, decode (fetchInstr s).1 = .ok (i, []) := by
  rw [fetchInstr_fst]
  apply decode_exact
  have := (instrLength_range (readByte s s.regs.pc).1).1
  rw [fetchMore_length]
  omega

/-- A fetch ends the halt bug and changes nothing else of the engine (60_exceptions.md R351). -/
theorem fetchInstr_engine : (fetchInstr s).2.engine = { s.engine with haltBug := false } := by
  show (fetchMore _ (fetchOpcode s).2).2.engine = _
  rw [fetchMore_engine]
  simp [fetchOpcode]

/-- The address of the opcode is kept. -/
theorem fetchInstr_opAddr : (fetchInstr s).2.opAddr = s.regs.pc := (keeps_fetchMore _ (fetchOpcode s).2).opAddr

/-- PC goes past the instruction, one less with the halt bug pending (60_exceptions.md R351). -/
theorem fetchInstr_regs :
    (fetchInstr s).2.regs =
      { s.regs with
        pc :=
          (if s.engine.haltBug then s.regs.pc else s.regs.pc + 1) +
            BitVec.ofNat 16 (instrLength (readByte s s.regs.pc).1 - 1) } := by
  show (fetchMore _ (fetchOpcode s).2).2.regs = _
  rw [fetchMore_regs]
  simp [fetchOpcode, setPc]

/-- What a fetch keeps; the address of the opcode and the halt bug are all it changes besides PC and what a
collaborator that answered keeps for itself. -/
theorem fetchInstr_keeps :
    (fetchInstr s).2.mem = s.mem ∧ (fetchInstr s).2.bootDisabled = s.bootDisabled ∧ (fetchInstr s).2.bootRom = s.bootRom ∧
      (fetchInstr s).2.params = s.params ∧ (fetchInstr s).2.totalCycles = s.totalCycles ∧
      (fetchInstr s).2.timer = s.timer ∧ (fetchInstr s).2.irq = s.irq := by
  have more : ∀ n t, (fetchMore n t).2.mem = t.mem ∧ (fetchMore n t).2.bootDisabled = t.bootDisabled ∧
      (fetchMore n t).2.bootRom = t.bootRom ∧ (fetchMore n t).2.params = t.params ∧
      (fetchMore n t).2.totalCycles = t.totalCycles ∧ (fetchMore n t).2.timer = t.timer ∧
      (fetchMore n t).2.irq = t.irq := by
    intro n
    induction n with
    | zero => exact fun t => ⟨rfl, rfl, rfl, rfl, rfl, rfl, rfl⟩
    | succ n ih =>
      intro t
      obtain ⟨h1, h2, h3, h4, h5, h6, h7⟩ := ih (fetch8 t).2
      refine ⟨h1.trans ?_, h2.trans ?_, h3.trans ?_, h4.trans ?_, h5.trans ?_, h6.trans ?_, h7.trans ?_⟩ <;>
        simp [fetch8_eq]
  obtain ⟨h1, h2, h3, h4, h5, h6, h7⟩ := more (instrLength (readByte s s.regs.pc).1 - 1) (fetchOpcode s).2
  exact ⟨h1.trans (by simp [fetchOpcode]), h2.trans (by simp [fetchOpcode]), h3.trans (by simp [fetchOpcode]),
    h4.trans (by simp [fetchOpcode]), h5.trans (by simp [fetchOpcode]), h6.trans (by simp [fetchOpcode]),
    h7.trans (by simp [fetchOpcode])⟩

/-! ### One instruction -/

/-- Everything `executeOne` can do: the fetched bytes are an instruction, and it ends in its form's effect and the EI
delay, or is a STOP and is refused at the address of its opcode (60_exceptions.md R351, 45_system.md R303). -/
theorem executeOne_cases :
    ∃ i, decode (fetchInstr s).1 = .ok (i, []) ∧
      ((isStop i.form = false ∧
          executeOne s = .next (applyEiDelay s.engine.imeScheduled (formEffect i.form (fetchInstr s).2))) ∨
        (isStop i.form = true ∧ executeOne s = .refused (.stopUnmodelled s.regs.pc))) := by
  obtain ⟨i, hi⟩ := fetchInstr_decodes s
  refine ⟨i, hi, ?_⟩
  rcases exec_cases i (fetchInstr s).2 with ⟨h, e⟩ | ⟨h, e⟩
  · exact .inl ⟨h, by simp only [executeOne, hi, e]⟩
  · exact .inr ⟨h, by simp only [executeOne, hi, e, fetchInstr_opAddr]⟩

/-- The EI delay changes IME and the pending EI alone (45_system.md R305). -/
theorem keeps_applyEiDelay (b : Bool) : Keeps s (applyEiDelay b s) := by
  unfold applyEiDelay
  split
  · exact keeps_engine rfl rfl
  · exact keeps_refl s

theorem applyEiDelay_engine (b : Bool) :
    (applyEiDelay b s).engine = s.engine ∨
      (applyEiDelay b s).engine = { s.engine with ime := true, imeScheduled := false } := by
  unfold applyEiDelay
  split
  · exact .inr rfl
  · exact .inl rfl

@[simp] theorem applyEiDelay_cost (b : Bool) : (applyEiDelay b s).cost = s.cost := by
  unfold applyEiDelay
  split <;> rfl

@[simp] theorem applyEiDelay_regs (b : Bool) : (applyEiDelay b s).regs = s.regs := by
  unfold applyEiDelay
  split <;> rfl

/-! ### The timer -/

/-- A pass of the timer's loop drains one period and leaves TMA and TAC alone (60_exceptions.md R341). -/
theorem timerTick_facts (p : Nat) (x : Timer × BitVec 5) :
    (timerTick p x).1.acc = x.1.acc - p ∧ (timerTick p x).1.tma = x.1.tma ∧ (timerTick p x).1.tac = x.1.tac ∧
      (timerTick p x).1.sysCounter = x.1.sysCounter := by
  unfold timerTick
  split <;> exact ⟨rfl, rfl, rfl, rfl⟩

/-- The loop drains every whole period: the remainder is left, and TMA, TAC and the counter stay. -/
theorem timerLoop_facts {p : Nat} (hp : 0 < p) (n : Nat) (x : Timer × BitVec 5) (h : x.1.acc / p ≤ n) :
    (timerLoop p n x).1.acc = x.1.acc % p ∧ (timerLoop p n x).1.tma = x.1.tma ∧
      (timerLoop p n x).1.tac = x.1.tac ∧ (timerLoop p n x).1.sysCounter = x.1.sysCounter := by
  induction n generalizing x with
  | zero =>
    have : x.1.acc < p := by
      rcases Nat.lt_or_ge x.1.acc p with hl | hl
      · exact hl
      · exact absurd (Nat.div_pos hl hp) (by omega)
    exact ⟨(Nat.mod_eq_of_lt this).symm, rfl, rfl, rfl⟩
  | succ n ih =>
    unfold timerLoop
    split
    · rename_i hle
      obtain ⟨h1, h2, h3, h4⟩ := timerTick_facts p x
      have hd : (timerTick p x).1.acc / p ≤ n := by
        rw [h1]
        have := Nat.div_eq_sub_div hp hle
        omega
      obtain ⟨g1, g2, g3, g4⟩ := ih _ hd
      refine ⟨?_, g2.trans h2, g3.trans h3, g4.trans h4⟩
      rw [g1, h1]
      exact (Nat.mod_eq_sub_mod hle).symm
    · rename_i hlt
      exact ⟨(Nat.mod_eq_of_lt (by omega)).symm, rfl, rfl, rfl⟩

/-- A period is a positive number of T-cycles (60_exceptions.md R342). -/
theorem timerPeriod_pos (tac : BitVec 3) : 0 < timerPeriod tac := by
  unfold timerPeriod
  split <;> decide

/-- What the timer advance leaves alone, whatever it counts. -/
theorem timerAdvance_frame (n : Nat) :
    (timerAdvance n s).regs = s.regs ∧ (timerAdvance n s).engine = s.engine ∧
      (timerAdvance n s).irq.ie = s.irq.ie ∧ (timerAdvance n s).mem = s.mem ∧
      (timerAdvance n s).collab = s.collab ∧ (timerAdvance n s).cost = s.cost ∧
      (timerAdvance n s).totalCycles = s.totalCycles := by
  unfold timerAdvance
  dsimp only
  split <;> exact ⟨rfl, rfl, rfl, rfl, rfl, rfl, rfl⟩

theorem keeps_timerAdvance (n : Nat) : Keeps s (timerAdvance n s) := by
  unfold timerAdvance
  dsimp only
  split <;> exact ⟨id, id, id, id, rfl, rfl, rfl, rfl, rfl, rfl, rfl, id⟩

/-! ### The advances -/

theorem memory_wf_dmaWriteOam (xs : List (Fin 160 × Byte)) {m : List Host.Cell} (h : Memory.wf m = true) :
    Memory.wf (dmaWriteOam xs m) = true := by
  induction xs generalizing m with
  | nil => exact h
  | cons x xs ih => exact ih (memory_wf_write h _ _)

theorem memory_mem_dmaWriteOam {xs : List (Fin 160 × Byte)} {m : List Host.Cell} {n : Nat} {v : Byte}
    (h : (n, v) ∈ dmaWriteOam xs m) : (0xFE00 ≤ n ∧ n ≤ 0xFE9F) ∨ ∃ u, (n, u) ∈ m := by
  induction xs generalizing m with
  | nil => exact .inr ⟨v, h⟩
  | cons x xs ih =>
    obtain ⟨i, w⟩ := x
    rcases ih h with h | ⟨u, h⟩
    · exact .inl h
    · rcases memory_mem_write h with h | h
      · have := i.isLt
        exact .inl (by omega)
      · exact .inr h

/-- Reads through the router change nothing but a collaborator's own state (60_exceptions.md R362). -/
theorem readEach_state (xs : List Addr) (s : State) :
    ∃ c, CollabKept s.collab c ∧ readEach xs s = { s with collab := c } := by
  induction xs generalizing s with
  | nil => exact ⟨_, collabKept_refl _, rfl⟩
  | cons a xs ih =>
    obtain ⟨c, k, h⟩ := readByte_state s a
    obtain ⟨d, j, g⟩ := ih (readByte s a).2
    rw [h] at j g
    exact ⟨d, ⟨j.videoMode.trans k.videoMode, j.inputs.trans k.inputs, j.sent.trans k.sent, j.romOnly ∘ k.romOnly⟩,
      (congrArg (readEach xs) h).trans g⟩

/-- What the DMA advance does: a collaborator's own state, OAM, and requests other than the Timer's
(60_exceptions.md R362). -/
theorem dmaAdvance_eq (x : StepInput) (s : State) :
    ∃ c, CollabKept s.collab c ∧
      dmaAdvance x s =
        { s with
          collab := c
          mem := dmaWriteOam x.dmaOam s.mem
          irq := { s.irq with ifl := s.irq.ifl ||| (x.dmaRequests &&& collaboratorSources) } } := by
  obtain ⟨c, k, h⟩ := readEach_state x.dmaReads s
  exact ⟨c, k, by simp only [dmaAdvance, h, requestInterrupts]⟩

/-- The advances change no register, no engine state and no parameter; they add the cost to the total and use up one
entry of the inputs (60_exceptions.md R350, R362 to R365). -/
theorem advanceAll_facts (x : StepInput) :
    (advanceAll x s).regs = s.regs ∧ (advanceAll x s).engine = s.engine ∧
      (advanceAll x s).bootDisabled = s.bootDisabled ∧ (advanceAll x s).bootRom = s.bootRom ∧
      (advanceAll x s).params = s.params ∧ (advanceAll x s).opAddr = s.opAddr ∧
      (advanceAll x s).cost = s.cost ∧ (advanceAll x s).irq.ie = s.irq.ie ∧
      (advanceAll x s).totalCycles = s.totalCycles + s.cost ∧ (advanceAll x s).mem = dmaWriteOam x.dmaOam s.mem := by
  obtain ⟨c, -, h⟩ := dmaAdvance_eq x s
  unfold advanceAll
  rw [h]
  unfold audioAdvance timerAdvance
  dsimp only
  split <;> exact ⟨rfl, rfl, rfl, rfl, rfl, rfl, rfl, rfl, rfl, rfl⟩

/-- What the advances do to the collaborators' side: the moves of the step are used up, nothing is sent, and the default
cartridge stays. -/
theorem advanceAll_collab (x : StepInput) :
    (advanceAll x s).collab.inputs = s.collab.inputs.tail ∧ (advanceAll x s).collab.sent = s.collab.sent ∧
      (s.collab.cart = .romOnly → (advanceAll x s).collab.cart = .romOnly) := by
  obtain ⟨c, k, h⟩ := dmaAdvance_eq x s
  unfold advanceAll
  rw [h]
  unfold audioAdvance timerAdvance
  dsimp only
  split <;> exact ⟨congrArg List.tail k.inputs, k.sent, k.romOnly⟩

/-! ### The step -/

/-- Everything a step can do (60_exceptions.md R350): it is refused from a refused state; else the host events have
happened and the CPU part idles, serves, or executes, and a next state is advanced. -/
theorem step_cases :
    (s.engine.refused = true ∧ step s = .refused .alreadyRefused) ∨
    (s.engine.refused = false ∧
      ((step s = .next (advanceAll (currentInput s) (charge (hostEvents (currentInput s) s) 0 1)) ∧
          (s.engine.locked = true ∨
            (s.engine.halted = true ∧ pendingMask (hostEvents (currentInput s) s) = 0))) ∨
        (step s = .next (advanceAll (currentInput s) (serviceInterrupt (hostEvents (currentInput s) s))) ∧
          s.engine.locked = false ∧ s.engine.ime = true ∧ pendingMask (hostEvents (currentInput s) s) ≠ 0) ∨
        (s.engine.locked = false ∧ cpuPart (hostEvents (currentInput s) s) = .execute ∧
          step s =
            match executeOne
                { hostEvents (currentInput s) s with engine := { s.engine with halted := false } } with
            | .next t => .next (advanceAll (currentInput s) t)
            | .fault r => .fault r
            | .refused r => .refused r))) := by
  unfold step runStep
  by_cases hr : s.engine.refused = true
  · exact .inl ⟨hr, if_pos hr⟩
  right
  refine ⟨by simpa using hr, ?_⟩
  rw [if_neg hr]
  have hc : cpuPart (hostEvents (currentInput s) s) =
      if s.engine.locked then .locked
      else if s.engine.ime && decide (pendingMask (hostEvents (currentInput s) s) ≠ 0) then .service
      else if s.engine.halted && decide (pendingMask (hostEvents (currentInput s) s) = 0) then .halted
      else .execute := rfl
  unfold runCpu
  by_cases hl : s.engine.locked = true
  · rw [if_pos hl] at hc
    rw [hc]
    exact .inl ⟨rfl, .inl hl⟩
  rw [if_neg hl] at hc
  have hl' : s.engine.locked = false := by simpa using hl
  split at hc
  · rename_i h
    simp only [Bool.and_eq_true, decide_eq_true_eq] at h
    rw [hc]
    exact .inr (.inl ⟨rfl, hl', h.1, h.2⟩)
  split at hc
  · rename_i h
    simp only [Bool.and_eq_true, decide_eq_true_eq] at h
    rw [hc]
    exact .inl ⟨rfl, .inr h⟩
  · rw [hc]
    exact .inr (.inr ⟨hl', rfl, rfl⟩)

end

end Sys2Proof.Machine
end

