-- ==== Sys2Proof/Tests/Slice0.lean ====
section
/-! SUPPORT. The model's own tests. Words are written out from the match column of spec/opcode_table.json and the
fields of 30_encoding.md, expected results are the vectors of 95_test_vectors.md (their names are in the names of the
tests), and the witnesses show that the hypotheses of each statement of Certificates/Slice0/Obligations.lean can be
met. -/

namespace Sys2Proof.Tests

open Sys2Proof.Machine

/-! ### Whole instructions -/

/-- The check of WellFormed refuses the bare escape. -/
theorem test_illFormed_bareEscape : (Instr.prefixCb 0x37).illFormed = some .bareEscape := by decide

/-- An instruction of every shape is whole. -/
theorem test_wellFormed_shapes :
    Instr.nop.wellFormed = true ∧ (Instr.ldAD8 0xFF).wellFormed = true ∧ (Instr.jpA16 0xFFFF).wellFormed = true ∧
      Instr.swapA.wellFormed = true ∧ Instr.illegalD3.wellFormed = true ∧ (Instr.prefixCb 0).wellFormed = false := by
  decide

/-! ### Decoding

Each row: the bytes from the table's match column, the operands 0x34 and 0x12, and the instruction they stand for. -/

/-- The bytes are exactly this instruction, and this instruction encodes to them. -/
def reads (bs : List Byte) (i : Instr) : Bool :=
  decide (decode bs = .ok (i, [])) && decide (encode i = bs)

/-- Primary opcodes 0x00 to 0x0F (30_encoding.md R113). -/
theorem test_decode_00 :
    [reads [0x00] .nop, reads [0x01, 0x34, 0x12] (.ldBcD16 0x1234), reads [0x02] .ldAtBcA, reads [0x03] .incBc,
      reads [0x04] .incB, reads [0x05] .decB, reads [0x06, 0x34] (.ldBD8 0x34), reads [0x07] .rlca,
      reads [0x08, 0x34, 0x12] (.ldAtA16Sp 0x1234), reads [0x09] .addHlBc, reads [0x0A] .ldAAtBc,
      reads [0x0B] .decBc, reads [0x0C] .incC, reads [0x0D] .decC, reads [0x0E, 0x34] (.ldCD8 0x34),
      reads [0x0F] .rrca].all id = true := by
  decide

/-- Primary opcodes 0x10 to 0x1F (30_encoding.md R113). -/
theorem test_decode_10 :
    [reads [0x10, 0x34] (.stop 0x34), reads [0x11, 0x34, 0x12] (.ldDeD16 0x1234), reads [0x12] .ldAtDeA,
      reads [0x13] .incDe, reads [0x14] .incD, reads [0x15] .decD, reads [0x16, 0x34] (.ldDD8 0x34),
      reads [0x17] .rla, reads [0x18, 0x34] (.jrE8 0x34), reads [0x19] .addHlDe, reads [0x1A] .ldAAtDe,
      reads [0x1B] .decDe, reads [0x1C] .incE, reads [0x1D] .decE, reads [0x1E, 0x34] (.ldED8 0x34),
      reads [0x1F] .rra].all id = true := by
  decide

/-- Primary opcodes 0x20 to 0x2F (30_encoding.md R113). -/
theorem test_decode_20 :
    [reads [0x20, 0x34] (.jrNzE8 0x34), reads [0x21, 0x34, 0x12] (.ldHlD16 0x1234), reads [0x22] .ldAtHlIncA,
      reads [0x23] .incHl, reads [0x24] .incH, reads [0x25] .decH, reads [0x26, 0x34] (.ldHD8 0x34),
      reads [0x27] .daa, reads [0x28, 0x34] (.jrZE8 0x34), reads [0x29] .addHlHl, reads [0x2A] .ldAAtHlInc,
      reads [0x2B] .decHl, reads [0x2C] .incL, reads [0x2D] .decL, reads [0x2E, 0x34] (.ldLD8 0x34),
      reads [0x2F] .cpl].all id = true := by
  decide

/-- Primary opcodes 0x30 to 0x3F (30_encoding.md R113). -/
theorem test_decode_30 :
    [reads [0x30, 0x34] (.jrNcE8 0x34), reads [0x31, 0x34, 0x12] (.ldSpD16 0x1234), reads [0x32] .ldAtHlDecA,
      reads [0x33] .incSp, reads [0x34] .incAtHl, reads [0x35] .decAtHl, reads [0x36, 0x34] (.ldAtHlD8 0x34),
      reads [0x37] .scf, reads [0x38, 0x34] (.jrCE8 0x34), reads [0x39] .addHlSp, reads [0x3A] .ldAAtHlDec,
      reads [0x3B] .decSp, reads [0x3C] .incA, reads [0x3D] .decA, reads [0x3E, 0x34] (.ldAD8 0x34),
      reads [0x3F] .ccf].all id = true := by
  decide

/-- Primary opcodes 0x40 to 0x4F (30_encoding.md R113). -/
theorem test_decode_40 :
    [reads [0x40] .ldBB, reads [0x41] .ldBC, reads [0x42] .ldBD, reads [0x43] .ldBE, reads [0x44] .ldBH,
      reads [0x45] .ldBL, reads [0x46] .ldBAtHl, reads [0x47] .ldBA, reads [0x48] .ldCB, reads [0x49] .ldCC,
      reads [0x4A] .ldCD, reads [0x4B] .ldCE, reads [0x4C] .ldCH, reads [0x4D] .ldCL, reads [0x4E] .ldCAtHl,
      reads [0x4F] .ldCA].all id = true := by
  decide

/-- Primary opcodes 0x50 to 0x5F (30_encoding.md R113). -/
theorem test_decode_50 :
    [reads [0x50] .ldDB, reads [0x51] .ldDC, reads [0x52] .ldDD, reads [0x53] .ldDE, reads [0x54] .ldDH,
      reads [0x55] .ldDL, reads [0x56] .ldDAtHl, reads [0x57] .ldDA, reads [0x58] .ldEB, reads [0x59] .ldEC,
      reads [0x5A] .ldED, reads [0x5B] .ldEE, reads [0x5C] .ldEH, reads [0x5D] .ldEL, reads [0x5E] .ldEAtHl,
      reads [0x5F] .ldEA].all id = true := by
  decide

/-- Primary opcodes 0x60 to 0x6F (30_encoding.md R113). -/
theorem test_decode_60 :
    [reads [0x60] .ldHB, reads [0x61] .ldHC, reads [0x62] .ldHD, reads [0x63] .ldHE, reads [0x64] .ldHH,
      reads [0x65] .ldHL, reads [0x66] .ldHAtHl, reads [0x67] .ldHA, reads [0x68] .ldLB, reads [0x69] .ldLC,
      reads [0x6A] .ldLD, reads [0x6B] .ldLE, reads [0x6C] .ldLH, reads [0x6D] .ldLL, reads [0x6E] .ldLAtHl,
      reads [0x6F] .ldLA].all id = true := by
  decide

/-- Primary opcodes 0x70 to 0x7F (30_encoding.md R113). -/
theorem test_decode_70 :
    [reads [0x70] .ldAtHlB, reads [0x71] .ldAtHlC, reads [0x72] .ldAtHlD, reads [0x73] .ldAtHlE,
      reads [0x74] .ldAtHlH, reads [0x75] .ldAtHlL, reads [0x76] .halt, reads [0x77] .ldAtHlA,
      reads [0x78] .ldAB, reads [0x79] .ldAC, reads [0x7A] .ldAD, reads [0x7B] .ldAE, reads [0x7C] .ldAH,
      reads [0x7D] .ldAL, reads [0x7E] .ldAAtHl, reads [0x7F] .ldAA].all id = true := by
  decide

/-- Primary opcodes 0x80 to 0x8F (30_encoding.md R113). -/
theorem test_decode_80 :
    [reads [0x80] .addAB, reads [0x81] .addAC, reads [0x82] .addAD, reads [0x83] .addAE, reads [0x84] .addAH,
      reads [0x85] .addAL, reads [0x86] .addAAtHl, reads [0x87] .addAA, reads [0x88] .adcAB,
      reads [0x89] .adcAC, reads [0x8A] .adcAD, reads [0x8B] .adcAE, reads [0x8C] .adcAH, reads [0x8D] .adcAL,
      reads [0x8E] .adcAAtHl, reads [0x8F] .adcAA].all id = true := by
  decide

/-- Primary opcodes 0x90 to 0x9F (30_encoding.md R113). -/
theorem test_decode_90 :
    [reads [0x90] .subAB, reads [0x91] .subAC, reads [0x92] .subAD, reads [0x93] .subAE, reads [0x94] .subAH,
      reads [0x95] .subAL, reads [0x96] .subAAtHl, reads [0x97] .subAA, reads [0x98] .sbcAB,
      reads [0x99] .sbcAC, reads [0x9A] .sbcAD, reads [0x9B] .sbcAE, reads [0x9C] .sbcAH, reads [0x9D] .sbcAL,
      reads [0x9E] .sbcAAtHl, reads [0x9F] .sbcAA].all id = true := by
  decide

/-- Primary opcodes 0xA0 to 0xAF (30_encoding.md R113). -/
theorem test_decode_A0 :
    [reads [0xA0] .andAB, reads [0xA1] .andAC, reads [0xA2] .andAD, reads [0xA3] .andAE, reads [0xA4] .andAH,
      reads [0xA5] .andAL, reads [0xA6] .andAAtHl, reads [0xA7] .andAA, reads [0xA8] .xorAB,
      reads [0xA9] .xorAC, reads [0xAA] .xorAD, reads [0xAB] .xorAE, reads [0xAC] .xorAH, reads [0xAD] .xorAL,
      reads [0xAE] .xorAAtHl, reads [0xAF] .xorAA].all id = true := by
  decide

/-- Primary opcodes 0xB0 to 0xBF (30_encoding.md R113). -/
theorem test_decode_B0 :
    [reads [0xB0] .orAB, reads [0xB1] .orAC, reads [0xB2] .orAD, reads [0xB3] .orAE, reads [0xB4] .orAH,
      reads [0xB5] .orAL, reads [0xB6] .orAAtHl, reads [0xB7] .orAA, reads [0xB8] .cpAB, reads [0xB9] .cpAC,
      reads [0xBA] .cpAD, reads [0xBB] .cpAE, reads [0xBC] .cpAH, reads [0xBD] .cpAL, reads [0xBE] .cpAAtHl,
      reads [0xBF] .cpAA].all id = true := by
  decide

/-- Primary opcodes 0xC0 to 0xCF (30_encoding.md R113). -/
theorem test_decode_C0 :
    [reads [0xC0] .retNz, reads [0xC1] .popBc, reads [0xC2, 0x34, 0x12] (.jpNzA16 0x1234),
      reads [0xC3, 0x34, 0x12] (.jpA16 0x1234), reads [0xC4, 0x34, 0x12] (.callNzA16 0x1234),
      reads [0xC5] .pushBc, reads [0xC6, 0x34] (.addAD8 0x34), reads [0xC7] .rst00, reads [0xC8] .retZ,
      reads [0xC9] .ret, reads [0xCA, 0x34, 0x12] (.jpZA16 0x1234), reads [0xCB, 0x37] .swapA,
      reads [0xCC, 0x34, 0x12] (.callZA16 0x1234), reads [0xCD, 0x34, 0x12] (.callA16 0x1234),
      reads [0xCE, 0x34] (.adcAD8 0x34), reads [0xCF] .rst08].all id = true := by
  decide

/-- Primary opcodes 0xD0 to 0xDF (30_encoding.md R113). -/
theorem test_decode_D0 :
    [reads [0xD0] .retNc, reads [0xD1] .popDe, reads [0xD2, 0x34, 0x12] (.jpNcA16 0x1234),
      reads [0xD3] .illegalD3, reads [0xD4, 0x34, 0x12] (.callNcA16 0x1234), reads [0xD5] .pushDe,
      reads [0xD6, 0x34] (.subAD8 0x34), reads [0xD7] .rst10, reads [0xD8] .retC, reads [0xD9] .reti,
      reads [0xDA, 0x34, 0x12] (.jpCA16 0x1234), reads [0xDB] .illegalDB,
      reads [0xDC, 0x34, 0x12] (.callCA16 0x1234), reads [0xDD] .illegalDD, reads [0xDE, 0x34] (.sbcAD8 0x34),
      reads [0xDF] .rst18].all id = true := by
  decide

/-- Primary opcodes 0xE0 to 0xEF (30_encoding.md R113). -/
theorem test_decode_E0 :
    [reads [0xE0, 0x34] (.ldhAtA8A 0x34), reads [0xE1] .popHl, reads [0xE2] .ldAtCA, reads [0xE3] .illegalE3,
      reads [0xE4] .illegalE4, reads [0xE5] .pushHl, reads [0xE6, 0x34] (.andAD8 0x34), reads [0xE7] .rst20,
      reads [0xE8, 0x34] (.addSpE8 0x34), reads [0xE9] .jpHl, reads [0xEA, 0x34, 0x12] (.ldAtA16A 0x1234),
      reads [0xEB] .illegalEB, reads [0xEC] .illegalEC, reads [0xED] .illegalED,
      reads [0xEE, 0x34] (.xorAD8 0x34), reads [0xEF] .rst28].all id = true := by
  decide

/-- Primary opcodes 0xF0 to 0xFF (30_encoding.md R113). -/
theorem test_decode_F0 :
    [reads [0xF0, 0x34] (.ldhAAtA8 0x34), reads [0xF1] .popAf, reads [0xF2] .ldAAtC, reads [0xF3] .di,
      reads [0xF4] .illegalF4, reads [0xF5] .pushAf, reads [0xF6, 0x34] (.orAD8 0x34), reads [0xF7] .rst30,
      reads [0xF8, 0x34] (.ldHlSpE8 0x34), reads [0xF9] .ldSpHl, reads [0xFA, 0x34, 0x12] (.ldAAtA16 0x1234),
      reads [0xFB] .ei, reads [0xFC] .illegalFC, reads [0xFD] .illegalFD, reads [0xFE, 0x34] (.cpAD8 0x34),
      reads [0xFF] .rst38].all id = true := by
  decide

/-- Secondary opcodes 0x00 to 0x0F (30_encoding.md R114). -/
theorem test_decode_CB00 :
    [reads [0xCB, 0x00] .rlcB, reads [0xCB, 0x01] .rlcC, reads [0xCB, 0x02] .rlcD, reads [0xCB, 0x03] .rlcE,
      reads [0xCB, 0x04] .rlcH, reads [0xCB, 0x05] .rlcL, reads [0xCB, 0x06] .rlcAtHl,
      reads [0xCB, 0x07] .rlcA, reads [0xCB, 0x08] .rrcB, reads [0xCB, 0x09] .rrcC, reads [0xCB, 0x0A] .rrcD,
      reads [0xCB, 0x0B] .rrcE, reads [0xCB, 0x0C] .rrcH, reads [0xCB, 0x0D] .rrcL,
      reads [0xCB, 0x0E] .rrcAtHl, reads [0xCB, 0x0F] .rrcA].all id = true := by
  decide

/-- Secondary opcodes 0x10 to 0x1F (30_encoding.md R114). -/
theorem test_decode_CB10 :
    [reads [0xCB, 0x10] .rlB, reads [0xCB, 0x11] .rlC, reads [0xCB, 0x12] .rlD, reads [0xCB, 0x13] .rlE,
      reads [0xCB, 0x14] .rlH, reads [0xCB, 0x15] .rlL, reads [0xCB, 0x16] .rlAtHl, reads [0xCB, 0x17] .rlA,
      reads [0xCB, 0x18] .rrB, reads [0xCB, 0x19] .rrC, reads [0xCB, 0x1A] .rrD, reads [0xCB, 0x1B] .rrE,
      reads [0xCB, 0x1C] .rrH, reads [0xCB, 0x1D] .rrL, reads [0xCB, 0x1E] .rrAtHl, reads [0xCB, 0x1F] .rrA].all id = true := by
  decide

/-- Secondary opcodes 0x20 to 0x2F (30_encoding.md R114). -/
theorem test_decode_CB20 :
    [reads [0xCB, 0x20] .slaB, reads [0xCB, 0x21] .slaC, reads [0xCB, 0x22] .slaD, reads [0xCB, 0x23] .slaE,
      reads [0xCB, 0x24] .slaH, reads [0xCB, 0x25] .slaL, reads [0xCB, 0x26] .slaAtHl,
      reads [0xCB, 0x27] .slaA, reads [0xCB, 0x28] .sraB, reads [0xCB, 0x29] .sraC, reads [0xCB, 0x2A] .sraD,
      reads [0xCB, 0x2B] .sraE, reads [0xCB, 0x2C] .sraH, reads [0xCB, 0x2D] .sraL,
      reads [0xCB, 0x2E] .sraAtHl, reads [0xCB, 0x2F] .sraA].all id = true := by
  decide

/-- Secondary opcodes 0x30 to 0x3F (30_encoding.md R114). -/
theorem test_decode_CB30 :
    [reads [0xCB, 0x30] .swapB, reads [0xCB, 0x31] .swapC, reads [0xCB, 0x32] .swapD,
      reads [0xCB, 0x33] .swapE, reads [0xCB, 0x34] .swapH, reads [0xCB, 0x35] .swapL,
      reads [0xCB, 0x36] .swapAtHl, reads [0xCB, 0x37] .swapA, reads [0xCB, 0x38] .srlB,
      reads [0xCB, 0x39] .srlC, reads [0xCB, 0x3A] .srlD, reads [0xCB, 0x3B] .srlE, reads [0xCB, 0x3C] .srlH,
      reads [0xCB, 0x3D] .srlL, reads [0xCB, 0x3E] .srlAtHl, reads [0xCB, 0x3F] .srlA].all id = true := by
  decide

/-- Secondary opcodes 0x40 to 0x4F (30_encoding.md R114). -/
theorem test_decode_CB40 :
    [reads [0xCB, 0x40] .bit0B, reads [0xCB, 0x41] .bit0C, reads [0xCB, 0x42] .bit0D,
      reads [0xCB, 0x43] .bit0E, reads [0xCB, 0x44] .bit0H, reads [0xCB, 0x45] .bit0L,
      reads [0xCB, 0x46] .bit0AtHl, reads [0xCB, 0x47] .bit0A, reads [0xCB, 0x48] .bit1B,
      reads [0xCB, 0x49] .bit1C, reads [0xCB, 0x4A] .bit1D, reads [0xCB, 0x4B] .bit1E,
      reads [0xCB, 0x4C] .bit1H, reads [0xCB, 0x4D] .bit1L, reads [0xCB, 0x4E] .bit1AtHl,
      reads [0xCB, 0x4F] .bit1A].all id = true := by
  decide

/-- Secondary opcodes 0x50 to 0x5F (30_encoding.md R114). -/
theorem test_decode_CB50 :
    [reads [0xCB, 0x50] .bit2B, reads [0xCB, 0x51] .bit2C, reads [0xCB, 0x52] .bit2D,
      reads [0xCB, 0x53] .bit2E, reads [0xCB, 0x54] .bit2H, reads [0xCB, 0x55] .bit2L,
      reads [0xCB, 0x56] .bit2AtHl, reads [0xCB, 0x57] .bit2A, reads [0xCB, 0x58] .bit3B,
      reads [0xCB, 0x59] .bit3C, reads [0xCB, 0x5A] .bit3D, reads [0xCB, 0x5B] .bit3E,
      reads [0xCB, 0x5C] .bit3H, reads [0xCB, 0x5D] .bit3L, reads [0xCB, 0x5E] .bit3AtHl,
      reads [0xCB, 0x5F] .bit3A].all id = true := by
  decide

/-- Secondary opcodes 0x60 to 0x6F (30_encoding.md R114). -/
theorem test_decode_CB60 :
    [reads [0xCB, 0x60] .bit4B, reads [0xCB, 0x61] .bit4C, reads [0xCB, 0x62] .bit4D,
      reads [0xCB, 0x63] .bit4E, reads [0xCB, 0x64] .bit4H, reads [0xCB, 0x65] .bit4L,
      reads [0xCB, 0x66] .bit4AtHl, reads [0xCB, 0x67] .bit4A, reads [0xCB, 0x68] .bit5B,
      reads [0xCB, 0x69] .bit5C, reads [0xCB, 0x6A] .bit5D, reads [0xCB, 0x6B] .bit5E,
      reads [0xCB, 0x6C] .bit5H, reads [0xCB, 0x6D] .bit5L, reads [0xCB, 0x6E] .bit5AtHl,
      reads [0xCB, 0x6F] .bit5A].all id = true := by
  decide

/-- Secondary opcodes 0x70 to 0x7F (30_encoding.md R114). -/
theorem test_decode_CB70 :
    [reads [0xCB, 0x70] .bit6B, reads [0xCB, 0x71] .bit6C, reads [0xCB, 0x72] .bit6D,
      reads [0xCB, 0x73] .bit6E, reads [0xCB, 0x74] .bit6H, reads [0xCB, 0x75] .bit6L,
      reads [0xCB, 0x76] .bit6AtHl, reads [0xCB, 0x77] .bit6A, reads [0xCB, 0x78] .bit7B,
      reads [0xCB, 0x79] .bit7C, reads [0xCB, 0x7A] .bit7D, reads [0xCB, 0x7B] .bit7E,
      reads [0xCB, 0x7C] .bit7H, reads [0xCB, 0x7D] .bit7L, reads [0xCB, 0x7E] .bit7AtHl,
      reads [0xCB, 0x7F] .bit7A].all id = true := by
  decide

/-- Secondary opcodes 0x80 to 0x8F (30_encoding.md R114). -/
theorem test_decode_CB80 :
    [reads [0xCB, 0x80] .res0B, reads [0xCB, 0x81] .res0C, reads [0xCB, 0x82] .res0D,
      reads [0xCB, 0x83] .res0E, reads [0xCB, 0x84] .res0H, reads [0xCB, 0x85] .res0L,
      reads [0xCB, 0x86] .res0AtHl, reads [0xCB, 0x87] .res0A, reads [0xCB, 0x88] .res1B,
      reads [0xCB, 0x89] .res1C, reads [0xCB, 0x8A] .res1D, reads [0xCB, 0x8B] .res1E,
      reads [0xCB, 0x8C] .res1H, reads [0xCB, 0x8D] .res1L, reads [0xCB, 0x8E] .res1AtHl,
      reads [0xCB, 0x8F] .res1A].all id = true := by
  decide

/-- Secondary opcodes 0x90 to 0x9F (30_encoding.md R114). -/
theorem test_decode_CB90 :
    [reads [0xCB, 0x90] .res2B, reads [0xCB, 0x91] .res2C, reads [0xCB, 0x92] .res2D,
      reads [0xCB, 0x93] .res2E, reads [0xCB, 0x94] .res2H, reads [0xCB, 0x95] .res2L,
      reads [0xCB, 0x96] .res2AtHl, reads [0xCB, 0x97] .res2A, reads [0xCB, 0x98] .res3B,
      reads [0xCB, 0x99] .res3C, reads [0xCB, 0x9A] .res3D, reads [0xCB, 0x9B] .res3E,
      reads [0xCB, 0x9C] .res3H, reads [0xCB, 0x9D] .res3L, reads [0xCB, 0x9E] .res3AtHl,
      reads [0xCB, 0x9F] .res3A].all id = true := by
  decide

/-- Secondary opcodes 0xA0 to 0xAF (30_encoding.md R114). -/
theorem test_decode_CBA0 :
    [reads [0xCB, 0xA0] .res4B, reads [0xCB, 0xA1] .res4C, reads [0xCB, 0xA2] .res4D,
      reads [0xCB, 0xA3] .res4E, reads [0xCB, 0xA4] .res4H, reads [0xCB, 0xA5] .res4L,
      reads [0xCB, 0xA6] .res4AtHl, reads [0xCB, 0xA7] .res4A, reads [0xCB, 0xA8] .res5B,
      reads [0xCB, 0xA9] .res5C, reads [0xCB, 0xAA] .res5D, reads [0xCB, 0xAB] .res5E,
      reads [0xCB, 0xAC] .res5H, reads [0xCB, 0xAD] .res5L, reads [0xCB, 0xAE] .res5AtHl,
      reads [0xCB, 0xAF] .res5A].all id = true := by
  decide

/-- Secondary opcodes 0xB0 to 0xBF (30_encoding.md R114). -/
theorem test_decode_CBB0 :
    [reads [0xCB, 0xB0] .res6B, reads [0xCB, 0xB1] .res6C, reads [0xCB, 0xB2] .res6D,
      reads [0xCB, 0xB3] .res6E, reads [0xCB, 0xB4] .res6H, reads [0xCB, 0xB5] .res6L,
      reads [0xCB, 0xB6] .res6AtHl, reads [0xCB, 0xB7] .res6A, reads [0xCB, 0xB8] .res7B,
      reads [0xCB, 0xB9] .res7C, reads [0xCB, 0xBA] .res7D, reads [0xCB, 0xBB] .res7E,
      reads [0xCB, 0xBC] .res7H, reads [0xCB, 0xBD] .res7L, reads [0xCB, 0xBE] .res7AtHl,
      reads [0xCB, 0xBF] .res7A].all id = true := by
  decide

/-- Secondary opcodes 0xC0 to 0xCF (30_encoding.md R114). -/
theorem test_decode_CBC0 :
    [reads [0xCB, 0xC0] .set0B, reads [0xCB, 0xC1] .set0C, reads [0xCB, 0xC2] .set0D,
      reads [0xCB, 0xC3] .set0E, reads [0xCB, 0xC4] .set0H, reads [0xCB, 0xC5] .set0L,
      reads [0xCB, 0xC6] .set0AtHl, reads [0xCB, 0xC7] .set0A, reads [0xCB, 0xC8] .set1B,
      reads [0xCB, 0xC9] .set1C, reads [0xCB, 0xCA] .set1D, reads [0xCB, 0xCB] .set1E,
      reads [0xCB, 0xCC] .set1H, reads [0xCB, 0xCD] .set1L, reads [0xCB, 0xCE] .set1AtHl,
      reads [0xCB, 0xCF] .set1A].all id = true := by
  decide

/-- Secondary opcodes 0xD0 to 0xDF (30_encoding.md R114). -/
theorem test_decode_CBD0 :
    [reads [0xCB, 0xD0] .set2B, reads [0xCB, 0xD1] .set2C, reads [0xCB, 0xD2] .set2D,
      reads [0xCB, 0xD3] .set2E, reads [0xCB, 0xD4] .set2H, reads [0xCB, 0xD5] .set2L,
      reads [0xCB, 0xD6] .set2AtHl, reads [0xCB, 0xD7] .set2A, reads [0xCB, 0xD8] .set3B,
      reads [0xCB, 0xD9] .set3C, reads [0xCB, 0xDA] .set3D, reads [0xCB, 0xDB] .set3E,
      reads [0xCB, 0xDC] .set3H, reads [0xCB, 0xDD] .set3L, reads [0xCB, 0xDE] .set3AtHl,
      reads [0xCB, 0xDF] .set3A].all id = true := by
  decide

/-- Secondary opcodes 0xE0 to 0xEF (30_encoding.md R114). -/
theorem test_decode_CBE0 :
    [reads [0xCB, 0xE0] .set4B, reads [0xCB, 0xE1] .set4C, reads [0xCB, 0xE2] .set4D,
      reads [0xCB, 0xE3] .set4E, reads [0xCB, 0xE4] .set4H, reads [0xCB, 0xE5] .set4L,
      reads [0xCB, 0xE6] .set4AtHl, reads [0xCB, 0xE7] .set4A, reads [0xCB, 0xE8] .set5B,
      reads [0xCB, 0xE9] .set5C, reads [0xCB, 0xEA] .set5D, reads [0xCB, 0xEB] .set5E,
      reads [0xCB, 0xEC] .set5H, reads [0xCB, 0xED] .set5L, reads [0xCB, 0xEE] .set5AtHl,
      reads [0xCB, 0xEF] .set5A].all id = true := by
  decide

/-- Secondary opcodes 0xF0 to 0xFF (30_encoding.md R114). -/
theorem test_decode_CBF0 :
    [reads [0xCB, 0xF0] .set6B, reads [0xCB, 0xF1] .set6C, reads [0xCB, 0xF2] .set6D,
      reads [0xCB, 0xF3] .set6E, reads [0xCB, 0xF4] .set6H, reads [0xCB, 0xF5] .set6L,
      reads [0xCB, 0xF6] .set6AtHl, reads [0xCB, 0xF7] .set6A, reads [0xCB, 0xF8] .set7B,
      reads [0xCB, 0xF9] .set7C, reads [0xCB, 0xFA] .set7D, reads [0xCB, 0xFB] .set7E,
      reads [0xCB, 0xFC] .set7H, reads [0xCB, 0xFD] .set7L, reads [0xCB, 0xFE] .set7AtHl,
      reads [0xCB, 0xFF] .set7A].all id = true := by
  decide

/-- Words written bit by bit from the fields of 30_encoding.md R103 to R112, one of each family. -/
theorem test_decode_by_bits :
    [reads [0b01_111_001] .ldAC,
      reads [0b00_110_110, 0x99] (.ldAtHlD8 0x99),
      reads [0b00_11_1010] .ldAAtHlDec,
      reads [0b11_11_0001] .popAf,
      reads [0b10_011_110] .sbcAAtHl,
      reads [0b11_101_110, 0xFF] (.xorAD8 0xFF),
      reads [0b00_111_101] .decA,
      reads [0b00_10_1001] .addHlHl,
      reads [0xCB, 0b00_110_101] .swapL,
      reads [0xCB, 0b01_011_110] .bit3AtHl,
      reads [0xCB, 0b10_111_010] .res7D,
      reads [0xCB, 0b11_000_001] .set0C,
      reads [0b11_011_010, 0x00, 0x20] (.jpCA16 0x2000),
      reads [0b001_10_000, 0xFE] (.jrNcE8 0xFE),
      reads [0b11_101_111] .rst28,
      reads [0b01_110_110] .halt].all id = true := by
  decide

/-- Missing bytes are refused by name. -/
theorem test_decode_missing :
    decode [] = .error .noOpcode ∧ decode [0xC3, 0x34] = .error (.missingOperand 0xC3) ∧
      decode [0xCB] = .error (.missingOperand 0xCB) := by
  decide

/-- The table's numbering of a word: one byte, or 0xCB above the secondary opcode (log entry 17). -/
theorem test_decodeTableWord :
    decodeTableWord 8 0x3E = some (.ldAD8 0x00) ∧ decodeTableWord 16 0xCB37 = some .swapA ∧
      decodeTableWord 24 0x1234C3 = some (.jpA16 0x1234) ∧ decodeTableWord 8 0xD3 = some .illegalD3 := by
  decide

/-! ### One step -/

/-- The default start state of 95_test_vectors.md with the bytes at 0x0100 and then the changes. -/
def start (bytes : List Byte) (changes : List (State → State)) : State :=
  changes.foldl (fun s f => f s)
    { State.reset with
      regs := { State.reset.regs with sp := 0xFFFE, pc := 0x0100 }
      bootDisabled := true
      mem := Memory.load [] 0x0100 bytes }

/-- The step ends in a next state of this cost with these properties. -/
def after (s : State) (cost : Nat) (p : State → List Bool) : Bool :=
  match step s with
  | .next t => t.cost == cost && (p t).all id
  | .fault _ => false
  | .refused _ => false

/-- A byte in memory. -/
def poke (n : Nat) (v : Byte) (s : State) : State := storeCell s n v

/-- The interrupt registers. -/
def withIrq (ie : Byte) (ifl : BitVec 5) (s : State) : State := { s with irq := { ie := ie, ifl := ifl } }

/-- IME. -/
def withIme (v : Bool) (s : State) : State := { s with engine := { s.engine with ime := v } }

/-- The timer. -/
def withTimer (sysCounter : BitVec 16) (acc : Nat) (tima tma : Byte) (tac : BitVec 3) (s : State) : State :=
  { s with timer := { sysCounter := sysCounter, acc := acc, tima := tima, tma := tma, tac := tac } }

/-- The access mode the video unit shows. -/
def withMode (m : VideoMode) (s : State) : State := { s with collab := { s.collab with videoMode := m } }

/-- The overlay mapped. -/
def overlayOn (s : State) : State := { s with bootDisabled := false }

/-- `ACC_ROTATE_Z = Clear`. -/
def rotateClear (s : State) : State := { s with params := { s.params with accRotateZ := .clear } }

/-- Vector LS1 (R130): LD B,A. -/
theorem test_vector_LS1 :
    after (start [0x47] [writeR8 .a 0x5A]) 4
      (fun t => [t.regs.b == 0x5A, t.regs.pc == 0x0101, t.regs.f == 0x00]) = true := by
  decide

/-- Vector LS2 (R130): LD (HL),H: stores the address high byte. -/
theorem test_vector_LS2 :
    after (start [0x74] [writeR16 .hl 0xC123]) 8
      (fun t => [t.regs.pc == 0x0101, Memory.read t.mem 0xC123 == 0xC1, t.regs.f == 0x00]) = true := by
  decide

/-- Vector LS3 (R130): LD L,(HL) overwrites half of HL. -/
theorem test_vector_LS3 :
    after (start [0x6E] [writeR16 .hl 0xC010, poke 0xC010 0x77]) 8
      (fun t => [t.regs.l == 0x77, t.regs.pc == 0x0101, t.regs.f == 0x00]) = true := by
  decide

/-- Vector LS4 (R131): LD (HL),d8 into ROM space is dropped (ROM-only CART). -/
theorem test_vector_LS4 :
    after (start [0x36, 0x99] [writeR16 .hl 0x2000]) 12
      (fun t => [t.regs.pc == 0x0102, t.regs.f == 0x00, t.mem == Memory.load [] 0x0100 [0x36, 0x99]]) = true := by
  decide

/-- Vector LS5 (R132): LD A,(DE) from echo RAM. -/
theorem test_vector_LS5 :
    after (start [0x1A] [writeR16 .de 0xE005, poke 0xC005 0x42]) 8
      (fun t => [t.regs.a == 0x42, t.regs.pc == 0x0101, t.regs.f == 0x00]) = true := by
  decide

/-- Vector LS6 (R134): LD A,(HL+) at 0xFFFF reads IE and wraps HL. -/
theorem test_vector_LS6 :
    after (start [0x2A] [writeR16 .hl 0xFFFF, withIrq 0x1F 0x00]) 8
      (fun t => [t.regs.a == 0x1F, t.regs.h == 0x00, t.regs.l == 0x00, t.regs.pc == 0x0101, t.regs.f == 0x00]) = true := by
  decide

/-- Vector LS7 (R137): LD (HL-),A at 0xC000. -/
theorem test_vector_LS7 :
    after (start [0x32] [writeR16 .hl 0xC000, writeR8 .a 0x33]) 8
      (fun t => [t.regs.h == 0xBF, t.regs.l == 0xFF, t.regs.pc == 0x0101, Memory.read t.mem 0xC000 == 0x33,
        t.regs.f == 0x00]) = true := by
  decide

/-- Vector LS8 (R139): LD (a16),A to the unusable region is dropped. -/
theorem test_vector_LS8 :
    after (start [0xEA, 0xA0, 0xFE] [writeR8 .a 0x11]) 16
      (fun t => [t.regs.pc == 0x0103, t.regs.f == 0x00, t.mem == Memory.load [] 0x0100 [0xEA, 0xA0, 0xFE]]) = true := by
  decide

/-- Vector LS9 (R138): LD A,(a16) from the unusable region reads 0x00. -/
theorem test_vector_LS9 :
    after (start [0xFA, 0xA0, 0xFE] [writeR8 .a 0x11]) 16
      (fun t => [t.regs.a == 0x00, t.regs.pc == 0x0103, t.regs.f == 0x00]) = true := by
  decide

/-- Vector LS10 (R140): LDH A,(0x0F) reads IF with bits 7-5 set. -/
theorem test_vector_LS10 :
    after (start [0xF0, 0x0F] [withIrq 0x00 0x04]) 12
      (fun t => [t.regs.a == 0xE4, t.regs.pc == 0x0102, t.regs.f == 0x00]) = true := by
  decide

/-- Vector LS11 (R140): LDH A,(0x07) reads TAC with bits 7-3 set. -/
theorem test_vector_LS11 :
    after (start [0xF0, 0x07] [withTimer 0x0000 0 0x00 0x00 5]) 12
      (fun t => [t.regs.a == 0xFD, t.regs.pc == 0x0102, t.timer.acc == 12, t.regs.f == 0x00]) = true := by
  decide

/-- Vector LS12 (R141): LDH (0x04),A resets the system counter. -/
theorem test_vector_LS12 :
    after (start [0xE0, 0x04] [writeR8 .a 0x12, withTimer 0x1234 0 0x00 0x00 0]) 12
      (fun t => [t.regs.pc == 0x0102, t.timer.sysCounter == 0x000C, t.regs.f == 0x00]) = true := by
  decide

/-- Vector LS13 (R141): LDH (0x50),A with A!=0 disables the overlay. -/
theorem test_vector_LS13 :
    after (start [0xE0, 0x50] [writeR8 .a 0x01, overlayOn]) 12
      (fun t => [t.regs.pc == 0x0102, t.bootDisabled, t.regs.f == 0x00]) = true := by
  decide

/-- Vector LS14 (R143): LD (C),A to HRAM. -/
theorem test_vector_LS14 :
    after (start [0xE2] [writeR8 .a 0xAB, writeR8 .c 0x80]) 8
      (fun t => [t.regs.pc == 0x0101, Memory.read t.mem 0xFF80 == 0xAB, t.regs.f == 0x00]) = true := by
  decide

/-- Vector LS15 (R144): LD SP,d16. -/
theorem test_vector_LS15 :
    after (start [0x31, 0x34, 0x12] []) 12
      (fun t => [t.regs.sp == 0x1234, t.regs.pc == 0x0103, t.regs.f == 0x00]) = true := by
  decide

/-- Vector LS16 (R145): LD (a16),SP little-endian. -/
theorem test_vector_LS16 :
    after (start [0x08, 0x00, 0xC1] [writeR16 .sp 0xBEEF]) 20
      (fun t => [t.regs.pc == 0x0103, Memory.read t.mem 0xC100 == 0xEF, Memory.read t.mem 0xC101 == 0xBE,
        t.regs.f == 0x00]) = true := by
  decide

/-- Vector LS17 (R146): LD SP,HL. -/
theorem test_vector_LS17 :
    after (start [0xF9] [writeR16 .hl 0xC0DE]) 8
      (fun t => [t.regs.sp == 0xC0DE, t.regs.pc == 0x0101, t.regs.f == 0x00]) = true := by
  decide

/-- Vector LS18 (R153): PUSH BC. -/
theorem test_vector_LS18 :
    after (start [0xC5] [writeR16 .bc 0x1234, writeR16 .sp 0xD000]) 16
      (fun t => [t.regs.sp == 0xCFFE, t.regs.pc == 0x0101, Memory.read t.mem 0xCFFE == 0x34,
        Memory.read t.mem 0xCFFF == 0x12, t.regs.f == 0x00]) = true := by
  decide

/-- Vector LS19 (R152): POP AF masks the low nibble. -/
theorem test_vector_LS19 :
    after (start [0xF1] [writeR16 .sp 0xC000, poke 0xC000 0xFF, poke 0xC001 0x12]) 12
      (fun t => [t.regs.a == 0x12, t.regs.f == 0xF0, t.regs.sp == 0xC002, t.regs.pc == 0x0101]) = true := by
  decide

/-- Vector LS20 (R136): LD (HL+),A at 0xFFFF writes IE and wraps HL. -/
theorem test_vector_LS20 :
    after (start [0x22] [writeR16 .hl 0xFFFF, writeR8 .a 0x05]) 8
      (fun t => [t.regs.h == 0x00, t.regs.l == 0x00, t.regs.pc == 0x0101, t.irq.ie == 0x05, t.regs.f == 0x00]) = true := by
  decide

/-- Vector LS21 (R130): VRAM read while videoMode=3 gives 0xFF. -/
theorem test_vector_LS21 :
    after (start [0x7E] [writeR16 .hl 0x8000, poke 0x8000 0x12, withMode .mode3]) 8
      (fun t => [t.regs.a == 0xFF, t.regs.pc == 0x0101, t.regs.f == 0x00]) = true := by
  decide

/-- Vector LS22 (R131): VRAM write while videoMode=3 is dropped. -/
theorem test_vector_LS22 :
    after (start [0x36, 0x55] [writeR16 .hl 0x8000, withMode .mode3]) 12
      (fun t => [t.regs.pc == 0x0102, t.regs.f == 0x00, t.mem == Memory.load [] 0x0100 [0x36, 0x55]]) = true := by
  decide

/-- Vector LS23 (R131): OAM write while videoMode=2 is dropped. -/
theorem test_vector_LS23 :
    after (start [0x36, 0x55] [writeR16 .hl 0xFE00, withMode .mode2]) 12
      (fun t => [t.regs.pc == 0x0102, t.regs.f == 0x00, t.mem == Memory.load [] 0x0100 [0x36, 0x55]]) = true := by
  decide

/-- Vector LS25 (R133): LD (BC),A into HRAM. -/
theorem test_vector_LS25 :
    after (start [0x02] [writeR16 .bc 0xFF90, writeR8 .a 0x77]) 8
      (fun t => [t.regs.pc == 0x0101, Memory.read t.mem 0xFF90 == 0x77, t.regs.f == 0x00]) = true := by
  decide

/-- Vector LS26 (R135): LD A,(HL-) wraps HL at 0x0000. -/
theorem test_vector_LS26 :
    after (start [0x3A] [writeR16 .hl 0x0000]) 8
      (fun t => [t.regs.h == 0xFF, t.regs.l == 0xFF, t.regs.pc == 0x0101, t.regs.f == 0x00]) = true := by
  decide

/-- Vector LS27 (R142): LD A,(C) reads IE when C=0xFF. -/
theorem test_vector_LS27 :
    after (start [0xF2] [writeR8 .c 0xFF, withIrq 0x0A 0x00]) 8
      (fun t => [t.regs.a == 0x0A, t.regs.pc == 0x0101, t.regs.f == 0x00]) = true := by
  decide

/-- Vector A2 (R173): ADD A,B to zero with carry and half carry. -/
theorem test_vector_A2 :
    after (start [0x80] [writeR8 .a 0xFF, writeR8 .b 0x01]) 4
      (fun t => [t.regs.a == 0x00, t.regs.f == 0xB0, t.regs.pc == 0x0101]) = true := by
  decide

/-- Vector A3 (R174): ADD A,d8 half carry only. -/
theorem test_vector_A3 :
    after (start [0xC6, 0x01] [writeR8 .a 0x0F]) 8
      (fun t => [t.regs.a == 0x10, t.regs.f == 0x20, t.regs.pc == 0x0102]) = true := by
  decide

/-- Vector A4 (R175): ADC A,C with carry-in to exactly 0x10. -/
theorem test_vector_A4 :
    after (start [0x89] [writeR8 .a 0x0E, writeR8 .c 0x01, (setF · 0x10)]) 4
      (fun t => [t.regs.a == 0x10, t.regs.f == 0x20, t.regs.pc == 0x0101]) = true := by
  decide

/-- Vector A5 (R176): ADC A,d8 0xFF+0x00+1 wraps. -/
theorem test_vector_A5 :
    after (start [0xCE, 0x00] [writeR8 .a 0xFF, (setF · 0x10)]) 8
      (fun t => [t.regs.a == 0x00, t.regs.f == 0xB0, t.regs.pc == 0x0102]) = true := by
  decide

/-- Vector A6 (R177): SUB A,B borrow. -/
theorem test_vector_A6 :
    after (start [0x90] [writeR8 .a 0x00, writeR8 .b 0x01]) 4
      (fun t => [t.regs.a == 0xFF, t.regs.f == 0x70, t.regs.pc == 0x0101]) = true := by
  decide

/-- Vector A7 (R177): SUB A,A gives zero. -/
theorem test_vector_A7 :
    after (start [0x97] [writeR8 .a 0x5A]) 4
      (fun t => [t.regs.a == 0x00, t.regs.f == 0xC0, t.regs.pc == 0x0101]) = true := by
  decide

/-- Vector A8 (R179): SBC A,d8 with carry-in, half borrow. -/
theorem test_vector_A8 :
    after (start [0xDE, 0x0F] [writeR8 .a 0x10, (setF · 0x10)]) 8
      (fun t => [t.regs.a == 0x00, t.regs.f == 0xE0, t.regs.pc == 0x0102]) = true := by
  decide

/-- Vector A9 (R180): SBC A,A with carry gives 0xFF. -/
theorem test_vector_A9 :
    after (start [0x9F] [writeR8 .a 0x42, (setF · 0x10)]) 4
      (fun t => [t.regs.a == 0xFF, t.regs.f == 0x70, t.regs.pc == 0x0101]) = true := by
  decide

/-- Vector A10 (R181): AND A,d8 zero. -/
theorem test_vector_A10 :
    after (start [0xE6, 0x0F] [writeR8 .a 0xF0]) 8
      (fun t => [t.regs.a == 0x00, t.regs.f == 0xA0, t.regs.pc == 0x0102]) = true := by
  decide

/-- Vector A11 (R183): XOR A,A. -/
theorem test_vector_A11 :
    after (start [0xAF] [writeR8 .a 0x99, (setF · 0x70)]) 4
      (fun t => [t.regs.a == 0x00, t.regs.f == 0x80, t.regs.pc == 0x0101]) = true := by
  decide

/-- Vector A12 (R185): OR A,(HL). -/
theorem test_vector_A12 :
    after (start [0xB6] [writeR8 .a 0x01, writeR16 .hl 0xC000, poke 0xC000 0x80]) 8
      (fun t => [t.regs.a == 0x81, t.regs.pc == 0x0101, t.regs.f == 0x00]) = true := by
  decide

/-- Vector A13 (R187): CP A,d8 equal. -/
theorem test_vector_A13 :
    after (start [0xFE, 0x42] [writeR8 .a 0x42]) 8
      (fun t => [t.regs.f == 0xC0, t.regs.pc == 0x0102, t.regs.a == 0x42]) = true := by
  decide

/-- Vector A14 (R187): CP A,d8 greater. -/
theorem test_vector_A14 :
    after (start [0xFE, 0x90] [writeR8 .a 0x42]) 8
      (fun t => [t.regs.f == 0x50, t.regs.pc == 0x0102, t.regs.a == 0x42]) = true := by
  decide

/-- Vector A15 (R190): INC A from 0xFF keeps C. -/
theorem test_vector_A15 :
    after (start [0x3C] [writeR8 .a 0xFF, (setF · 0x10)]) 4
      (fun t => [t.regs.a == 0x00, t.regs.f == 0xB0, t.regs.pc == 0x0101]) = true := by
  decide

/-- Vector A16 (R190): INC (HL). -/
theorem test_vector_A16 :
    after (start [0x34] [writeR16 .hl 0xC000, poke 0xC000 0x0F]) 12
      (fun t => [t.regs.f == 0x20, t.regs.pc == 0x0101, Memory.read t.mem 0xC000 == 0x10]) = true := by
  decide

/-- Vector A17 (R191): DEC B to zero. -/
theorem test_vector_A17 :
    after (start [0x05] [writeR8 .b 0x01]) 4
      (fun t => [t.regs.f == 0xC0, t.regs.b == 0x00, t.regs.pc == 0x0101]) = true := by
  decide

/-- Vector A18 (R191): DEC C from 0x00. -/
theorem test_vector_A18 :
    after (start [0x0D] [writeR8 .c 0x00, (setF · 0x10)]) 4
      (fun t => [t.regs.f == 0x70, t.regs.c == 0xFF, t.regs.pc == 0x0101]) = true := by
  decide

/-- Vector A23 (R193): CPL. -/
theorem test_vector_A23 :
    after (start [0x2F] [writeR8 .a 0x35, (setF · 0x90)]) 4
      (fun t => [t.regs.a == 0xCA, t.regs.f == 0xF0, t.regs.pc == 0x0101]) = true := by
  decide

/-- Vector A24 (R194): SCF. -/
theorem test_vector_A24 :
    after (start [0x37] [(setF · 0xE0)]) 4 (fun t => [t.regs.f == 0x90, t.regs.pc == 0x0101]) = true := by
  decide

/-- Vector A25 (R195): CCF. -/
theorem test_vector_A25 :
    after (start [0x3F] [(setF · 0x90)]) 4 (fun t => [t.regs.f == 0x80, t.regs.pc == 0x0101]) = true := by
  decide

/-- Vector A26 (R178): SUB A,d8 half-borrow only. -/
theorem test_vector_A26 :
    after (start [0xD6, 0x01] [writeR8 .a 0x10]) 8
      (fun t => [t.regs.a == 0x0F, t.regs.f == 0x60, t.regs.pc == 0x0102]) = true := by
  decide

/-- Vector A27 (R182): AND A,d8 sets H always. -/
theorem test_vector_A27 :
    after (start [0xE6, 0x81] [writeR8 .a 0xFF, (setF · 0x10)]) 8
      (fun t => [t.regs.a == 0x81, t.regs.f == 0x20, t.regs.pc == 0x0102]) = true := by
  decide

/-- Vector A28 (R184): XOR A,d8. -/
theorem test_vector_A28 :
    after (start [0xEE, 0xFF] [writeR8 .a 0x0F, (setF · 0xF0)]) 8
      (fun t => [t.regs.a == 0xF0, t.regs.f == 0x00, t.regs.pc == 0x0102]) = true := by
  decide

/-- Vector A29 (R186): OR A,d8 zero. -/
theorem test_vector_A29 :
    after (start [0xF6, 0x00] [writeR8 .a 0x00, (setF · 0x70)]) 8
      (fun t => [t.regs.f == 0x80, t.regs.pc == 0x0102]) = true := by
  decide

/-- Vector W1 (R214): ADD HL,HL. -/
theorem test_vector_W1 :
    after (start [0x29] [writeR16 .hl 0x8800]) 8
      (fun t => [t.regs.f == 0x30, t.regs.h == 0x10, t.regs.pc == 0x0101]) = true := by
  decide

/-- Vector W2 (R214): ADD HL,DE to exactly 0x10000 leaves Z. -/
theorem test_vector_W2 :
    after (start [0x19] [writeR16 .hl 0xF000, writeR16 .de 0x1000, (setF · 0x00)]) 8
      (fun t => [t.regs.f == 0x10, t.regs.h == 0x00, t.regs.pc == 0x0101]) = true := by
  decide

/-- Vector W3 (R212): DEC SP wraps. -/
theorem test_vector_W3 :
    after (start [0x3B] [writeR16 .sp 0x0000, (setF · 0xF0)]) 8
      (fun t => [t.regs.sp == 0xFFFF, t.regs.pc == 0x0101, t.regs.f == 0xF0]) = true := by
  decide

/-- Vector W4 (R216): ADD SP,-1 from 0x0001. -/
theorem test_vector_W4 :
    after (start [0xE8, 0xFF] [writeR16 .sp 0x0001]) 16
      (fun t => [t.regs.f == 0x30, t.regs.sp == 0x0000, t.regs.pc == 0x0102]) = true := by
  decide

/-- Vector W5 (R216): ADD SP,-1 from 0x0000. -/
theorem test_vector_W5 :
    after (start [0xE8, 0xFF] [writeR16 .sp 0x0000]) 16
      (fun t => [t.regs.sp == 0xFFFF, t.regs.pc == 0x0102, t.regs.f == 0x00]) = true := by
  decide

/-- Vector W6 (R217): LD HL,SP+0x08. -/
theorem test_vector_W6 :
    after (start [0xF8, 0x08] [writeR16 .sp 0xFFF8]) 12
      (fun t => [t.regs.f == 0x30, t.regs.pc == 0x0102, t.regs.sp == 0xFFF8, getHl t == 0x0000]) = true := by
  decide

/-- Vector W7 (R217): LD HL,SP-0x80. -/
theorem test_vector_W7 :
    after (start [0xF8, 0x80] [writeR16 .sp 0xD000, (setF · 0x80)]) 12
      (fun t => [t.regs.f == 0x00, t.regs.h == 0xCF, t.regs.l == 0x80, t.regs.pc == 0x0102, t.regs.sp == 0xD000]) = true := by
  decide

/-- Vector W8 (R211): INC BC wraps (source example, flags kept). -/
theorem test_vector_W8 :
    after (start [0x03] [writeR16 .bc 0xFFFF, (setF · 0xF0)]) 8
      (fun t => [t.regs.b == 0x00, t.regs.c == 0x00, t.regs.pc == 0x0101, t.regs.f == 0xF0]) = true := by
  decide

/-- Vector S1 (R231): RLCA, Z unchanged (default). -/
theorem test_vector_S1 :
    after (start [0x07] [writeR8 .a 0x80, (setF · 0x80)]) 4
      (fun t => [t.regs.a == 0x01, t.regs.f == 0x90, t.regs.pc == 0x0101]) = true := by
  decide

/-- Vector S2 (R231): RLCA with ACC_ROTATE_Z=Clear. -/
theorem test_vector_S2 :
    after (start [0x07] [writeR8 .a 0x80, (setF · 0x80), rotateClear]) 4
      (fun t => [t.regs.a == 0x01, t.regs.f == 0x10, t.regs.pc == 0x0101]) = true := by
  decide

/-- Vector S3 (R233): RLA. -/
theorem test_vector_S3 :
    after (start [0x17] [writeR8 .a 0x80, (setF · 0x00)]) 4
      (fun t => [t.regs.a == 0x00, t.regs.f == 0x10, t.regs.pc == 0x0101]) = true := by
  decide

/-- Vector S4 (R234): RRA carry in. -/
theorem test_vector_S4 :
    after (start [0x1F] [writeR8 .a 0x00, (setF · 0x10)]) 4
      (fun t => [t.regs.a == 0x80, t.regs.f == 0x00, t.regs.pc == 0x0101]) = true := by
  decide

/-- Vector S5 (R232): RRCA. -/
theorem test_vector_S5 :
    after (start [0x0F] [writeR8 .a 0x01]) 4
      (fun t => [t.regs.a == 0x80, t.regs.f == 0x10, t.regs.pc == 0x0101]) = true := by
  decide

/-- Vector S6 (R236): RLC (HL). -/
theorem test_vector_S6 :
    after (start [0xCB, 0x06] [writeR16 .hl 0xC000, poke 0xC000 0x80]) 16
      (fun t => [t.regs.f == 0x10, t.regs.pc == 0x0102, Memory.read t.mem 0xC000 == 0x01]) = true := by
  decide

/-- Vector S7 (R237): RRC A zero. -/
theorem test_vector_S7 :
    after (start [0xCB, 0x0F] [writeR8 .a 0x00, (setF · 0x10)]) 8
      (fun t => [t.regs.f == 0x80, t.regs.pc == 0x0102]) = true := by
  decide

/-- Vector S8 (R238): RL B through carry. -/
theorem test_vector_S8 :
    after (start [0xCB, 0x10] [writeR8 .b 0x7F, (setF · 0x10)]) 8
      (fun t => [t.regs.f == 0x00, t.regs.b == 0xFF, t.regs.pc == 0x0102]) = true := by
  decide

/-- Vector S9 (R239): RR C. -/
theorem test_vector_S9 :
    after (start [0xCB, 0x19] [writeR8 .c 0x01]) 8
      (fun t => [t.regs.f == 0x90, t.regs.c == 0x00, t.regs.pc == 0x0102]) = true := by
  decide

/-- Vector S10 (R240): SLA D. -/
theorem test_vector_S10 :
    after (start [0xCB, 0x22] [writeR8 .d 0xC1]) 8
      (fun t => [t.regs.f == 0x10, t.regs.d == 0x82, t.regs.pc == 0x0102]) = true := by
  decide

/-- Vector S11 (R241): SRA E keeps bit 7. -/
theorem test_vector_S11 :
    after (start [0xCB, 0x2B] [writeR8 .e 0x81]) 8
      (fun t => [t.regs.f == 0x10, t.regs.e == 0xC0, t.regs.pc == 0x0102]) = true := by
  decide

/-- Vector S12 (R242): SWAP H clears C. -/
theorem test_vector_S12 :
    after (start [0xCB, 0x34] [writeR8 .h 0x12, (setF · 0x10)]) 8
      (fun t => [t.regs.f == 0x00, t.regs.h == 0x21, t.regs.pc == 0x0102]) = true := by
  decide

/-- Vector S13 (R243): SRL L. -/
theorem test_vector_S13 :
    after (start [0xCB, 0x3D] [writeR8 .l 0x80]) 8
      (fun t => [t.regs.l == 0x40, t.regs.pc == 0x0102, t.regs.f == 0x00]) = true := by
  decide

/-- Vector S14 (R244): BIT 0,A set bit. -/
theorem test_vector_S14 :
    after (start [0xCB, 0x47] [writeR8 .a 0x01, (setF · 0x10)]) 8
      (fun t => [t.regs.f == 0x30, t.regs.pc == 0x0102]) = true := by
  decide

/-- Vector S15 (R244): BIT 3,(HL) clear bit. -/
theorem test_vector_S15 :
    after (start [0xCB, 0x5E] [writeR16 .hl 0xC000, poke 0xC000 0xF7]) 12
      (fun t => [t.regs.f == 0xA0, t.regs.pc == 0x0102]) = true := by
  decide

/-- Vector S16 (R245): RES 7,(HL). -/
theorem test_vector_S16 :
    after (start [0xCB, 0xBE] [writeR16 .hl 0xC000, poke 0xC000 0xFF]) 16
      (fun t => [t.regs.pc == 0x0102, Memory.read t.mem 0xC000 == 0x7F, t.regs.f == 0x00]) = true := by
  decide

/-- Vector S17 (R246): SET 0,C. -/
theorem test_vector_S17 :
    after (start [0xCB, 0xC1] [writeR8 .c 0x00, (setF · 0xF0)]) 8
      (fun t => [t.regs.c == 0x01, t.regs.pc == 0x0102, t.regs.f == 0xF0]) = true := by
  decide

/-- Vector S18 (R306): prefix CB with SWAP A counts as one step. -/
theorem test_vector_S18 :
    after (start [0xCB, 0x37] [writeR8 .a 0xF0, (setF · 0x70)]) 8
      (fun t => [t.regs.a == 0x0F, t.regs.f == 0x00, t.regs.pc == 0x0102]) = true := by
  decide

/-- Vector C2 (R275): JR NZ taken backwards. -/
theorem test_vector_C2 :
    after (start [] [(setPc · 0x0105), poke 0x0105 0x20, poke 0x0106 0xFB, (setF · 0x00)]) 12
      (fun t => [t.regs.pc == 0x0102, t.regs.f == 0x00]) = true := by
  decide

/-- Vector C3 (R275): JR Z untaken. -/
theorem test_vector_C3 :
    after (start [0x28, 0x10] [(setF · 0x00)]) 8 (fun t => [t.regs.pc == 0x0102, t.regs.f == 0x00]) = true := by
  decide

/-- Vector C4 (R272): JP C untaken. -/
theorem test_vector_C4 :
    after (start [0xDA, 0x00, 0x20] [(setF · 0x00)]) 12
      (fun t => [t.regs.pc == 0x0103, t.regs.f == 0x00]) = true := by
  decide

/-- Vector C5 (R273): JP HL. -/
theorem test_vector_C5 :
    after (start [0xE9] [writeR16 .hl 0x1234]) 4 (fun t => [t.regs.pc == 0x1234, t.regs.f == 0x00]) = true := by
  decide

/-- Vector C6 (R276): CALL a16. -/
theorem test_vector_C6 :
    after (start [0xCD, 0x00, 0x30] [writeR16 .sp 0xD000]) 24
      (fun t => [t.regs.sp == 0xCFFE, t.regs.pc == 0x3000, Memory.read t.mem 0xCFFE == 0x03,
        Memory.read t.mem 0xCFFF == 0x01, t.regs.f == 0x00]) = true := by
  decide

/-- Vector C7 (R277): CALL NC untaken. -/
theorem test_vector_C7 :
    after (start [0xD4, 0x00, 0x30] [writeR16 .sp 0xD000, (setF · 0x10)]) 12
      (fun t => [t.regs.pc == 0x0103, t.regs.f == 0x10]) = true := by
  decide

/-- Vector C8 (R278): RET. -/
theorem test_vector_C8 :
    after (start [0xC9] [writeR16 .sp 0xCFFE, poke 0xCFFE 0x03, poke 0xCFFF 0x01]) 16
      (fun t => [t.regs.sp == 0xD000, t.regs.pc == 0x0103, t.regs.f == 0x00]) = true := by
  decide

/-- Vector C9 (R279): RET Z taken. -/
theorem test_vector_C9 :
    after (start [0xC8] [writeR16 .sp 0xCFFE, (setF · 0x80), poke 0xCFFE 0x03, poke 0xCFFF 0x01]) 20
      (fun t => [t.regs.sp == 0xD000, t.regs.pc == 0x0103, t.regs.f == 0x80]) = true := by
  decide

/-- Vector C10 (R279): RET Z untaken. -/
theorem test_vector_C10 :
    after (start [0xC8] [writeR16 .sp 0xCFFE, (setF · 0x00), poke 0xCFFE 0x03, poke 0xCFFF 0x01]) 8
      (fun t => [t.regs.pc == 0x0101, t.regs.f == 0x00]) = true := by
  decide

/-- Vector C11 (R280): RETI sets IME. -/
theorem test_vector_C11 :
    after (start [0xD9] [writeR16 .sp 0xCFFE, poke 0xCFFE 0x03, poke 0xCFFF 0x01]) 16
      (fun t => [t.regs.sp == 0xD000, t.regs.pc == 0x0103, t.engine.ime == true, t.regs.f == 0x00]) = true := by
  decide

/-- Vector C12 (R281): RST 0x38. -/
theorem test_vector_C12 :
    after (start [0xFF] [writeR16 .sp 0xD000]) 16
      (fun t => [t.regs.sp == 0xCFFE, t.regs.pc == 0x0038, Memory.read t.mem 0xCFFE == 0x01,
        Memory.read t.mem 0xCFFF == 0x01, t.regs.f == 0x00]) = true := by
  decide

/-- Vector C13 (R274): JR wraps past 0xFFFF. -/
theorem test_vector_C13 :
    after (start [] [(setPc · 0xFFF0), poke 0xFFF0 0x18, poke 0xFFF1 0x20]) 12
      (fun t => [t.regs.pc == 0x0012, t.regs.f == 0x00]) = true := by
  decide

/-- Vector C14 (R271): JP a16. -/
theorem test_vector_C14 :
    after (start [0xC3, 0x34, 0x12] []) 16 (fun t => [t.regs.pc == 0x1234, t.regs.f == 0x00]) = true := by
  decide

/-- Vector C15 (R270): JP C,a16 taken: condition tests C only. -/
theorem test_vector_C15 :
    after (start [0xDA, 0x00, 0x20] [(setF · 0x70)]) 16
      (fun t => [t.regs.pc == 0x2000, t.regs.f == 0x70]) = true := by
  decide

/-- Vector Y3 (R301): HALT with IME=0, nothing pending. -/
theorem test_vector_Y3 :
    after (start [0x76] [withIrq 0x04 0x00]) 4
      (fun t => [t.regs.pc == 0x0101, t.engine.halted, t.regs.f == 0x00]) = true := by
  decide

/-- Vector Y10 (R300): NOP. -/
theorem test_vector_Y10 :
    after (start [0x00] []) 4 (fun t => [t.regs.pc == 0x0101, t.regs.f == 0x00]) = true := by
  decide

/-- Vector I1 (R333): two sources: VBlank first, only its bit cleared. -/
theorem test_vector_I1 :
    after (start [0x00] [withIme true, writeR16 .sp 0xD000, withIrq 0x1F 0x14]) 20
      (fun t => [t.regs.sp == 0xCFFE, t.regs.pc == 0x0050, t.engine.ime == false, t.irq.ifl == 0x10,
        Memory.read t.mem 0xCFFF == 0x01, t.regs.f == 0x00]) = true := by
  decide

/-- Vector I2 (R332): IE masks: nothing serviced. -/
theorem test_vector_I2 :
    after (start [0x00] [withIme true, writeR16 .sp 0xD000, withIrq 0x01 0x04]) 4
      (fun t => [t.regs.pc == 0x0101, t.regs.f == 0x00]) = true := by
  decide

/-- Vector I3 (R341): TIMA overflow during CALL. -/
theorem test_vector_I3 :
    after (start [0xCD, 0x00, 0x02] [writeR16 .sp 0xD000, withTimer 0x0000 0 0xFF 0x80 5]) 24
      (fun t => [t.regs.sp == 0xCFFE, t.regs.pc == 0x0200, t.irq.ifl == 0x04, t.timer.tima == 0x80,
        t.timer.acc == 8, Memory.read t.mem 0xCFFE == 0x03, Memory.read t.mem 0xCFFF == 0x01, t.regs.f == 0x00]) = true := by
  decide

/-- Vector M3 (R77): DIV read after 0x1234 T. -/
theorem test_vector_M3 :
    after (start [0xF0, 0x04] [withTimer 0x1234 0 0x00 0x00 0]) 12
      (fun t => [t.regs.a == 0x12, t.regs.pc == 0x0102, t.timer.sysCounter == 0x1240, t.regs.f == 0x00]) = true := by
  decide

/-- Vector M5 (R70): IE read at 0xFFFF keeps bits 7-5. -/
theorem test_vector_M5 :
    after (start [0xFA, 0xFF, 0xFF] [withIrq 0xE1 0x00]) 16
      (fun t => [t.regs.a == 0xE1, t.regs.pc == 0x0103, t.regs.f == 0x00]) = true := by
  decide

/-- Vectors A19 and A22 (R192), their second step: DAA after 0x15 + 0x27, and after 0x00 - 0x01. -/
theorem test_vector_A19_A22 :
    after (start [0x27] [writeR8 .a 0x3C]) 4 (fun t => [t.regs.a == 0x42, t.regs.f == 0x00]) = true ∧
      after (start [0x27] [writeR8 .a 0xFF, (setF · 0x70)]) 4 (fun t => [t.regs.a == 0x99, t.regs.f == 0x50]) = true := by
  decide

/-- Vector Y1 (R305), its first two steps: an EI pending, then IME after one more instruction. -/
theorem test_vector_Y1 :
    after (start [0xFB] []) 4 (fun t => [t.engine.imeScheduled, !t.engine.ime]) = true ∧
      after { start [0x00] [] with engine := { State.reset.engine with imeScheduled := true } } 4
        (fun t => [!t.engine.imeScheduled, t.engine.ime]) = true := by
  decide

/-- Vector Y2 (R304), its second step: DI ends a pending EI. -/
theorem test_vector_Y2 :
    after { start [0xF3] [] with engine := { State.reset.engine with imeScheduled := true } } 4
      (fun t => [!t.engine.imeScheduled, !t.engine.ime]) = true := by
  decide

/-- Vector Y5 (R301), its steps one and two: HALT leaves the halt bug, and the next fetch does not advance PC. -/
theorem test_vector_Y5 :
    after (start [0x76] [withIrq 0x04 0x04]) 4
        (fun t => [t.engine.haltBug, !t.engine.halted, t.regs.pc == 0x0101]) = true ∧
      after { start [0x3C] [] with engine := { State.reset.engine with haltBug := true } } 4
        (fun t => [!t.engine.haltBug, t.regs.a == 0x01, t.regs.pc == 0x0100]) = true := by
  decide

/-- Vector Y7 (R305, R334), its third step: service with the halt bug pending pushes PC - 1. -/
theorem test_vector_Y7 :
    after
        { start [0xFB, 0x76, 0x00] [(setPc · 0x0102), writeR16 .sp 0xD000, withIrq 0x04 0x04] with
          engine := { State.reset.engine with ime := true, haltBug := true } } 20
      (fun t => [t.regs.pc == 0x0050, t.regs.sp == 0xCFFE, t.irq.ifl == 0x00, !t.engine.haltBug,
        Memory.read t.mem 0xCFFE == 0x01, Memory.read t.mem 0xCFFF == 0x01]) = true := by
  decide

/-- Vector Y8 (R307): an illegal opcode locks with its record, and a locked step idles though a request is pending. -/
theorem test_vector_Y8 :
    after (start [0xD3, 0x3C] [withIme true, withIrq 0x01 0x00]) 4
        (fun t => [t.engine.locked, t.regs.pc == 0x0101, t.engine.faults == [⟨.illegalOpcode, 0xD3, 0x0100⟩]]) = true ∧
      after
          { start [0x3C] [withIrq 0x01 0x01] with
            engine := { State.reset.engine with ime := true, locked := true, faults := [⟨.illegalOpcode, 0xD3, 0x0100⟩] } } 4
        (fun t => [t.regs.pc == 0x0100, t.regs.a == 0x00, t.irq.ifl == 0x01]) = true := by
  decide

/-- Vector Y9 (R303): STOP is refused at the address of its opcode. -/
theorem test_vector_Y9 : step (start [0x10, 0x00] []) = .refused (.stopUnmodelled 0x0100) := rfl

/-- Vector L1.4 (R341): the timer's rows one, two and four. -/
theorem test_vector_L1_4 :
    (timerAdvance 48 (withTimer 0 0 0xFE 0x10 5 State.reset)).timer.tima = 0x11 ∧
      (timerAdvance 48 (withTimer 0 0 0xFF 0xFF 5 State.reset)).irq.ifl = 0x04 ∧
      (timerAdvance 1024 (withTimer 0 0 0xFF 0x00 1 State.reset)).timer.tima = 0xFF := by
  decide

/-- Vectors M1 and M2 (R71, R73): IF stores five bits, and an echo write is a WRAM write. -/
theorem test_vector_M1_M2 :
    (writeByte State.reset 0xFF0F 0xFF).irq.ifl = 0x1F ∧
      peek (writeByte State.reset 0xF000 0x3C) 0xD000 = 0x3C := by
  decide

/-- A supplied answer of `EXT_IO` is the byte read, and is used up (20_memory.md R78). -/
theorem test_extIo_answer :
    (readByte { State.reset with collab := { State.reset.collab with extAnswers := [0x9A, 0x01] } } 0xFF10).1 = 0x9A ∧
      (readByte { State.reset with collab := { State.reset.collab with extAnswers := [0x9A, 0x01] } } 0xFF10).2.collab.extAnswers =
        [0x01] := by
  decide

/-- The video unit's and the DMA's moves land after the instruction of their step (60_exceptions.md R350, R362, R364). -/
theorem test_inputs :
    after
        { start [0x00] [] with
          collab :=
            { State.reset.collab with
              inputs := [{ quietInput with dmaOam := [(0, 0x55)], vblank := true, videoMode := some .mode1 }] } } 4
      (fun t => [Memory.read t.mem 0xFE00 == 0x55, t.irq.ifl == 0x01, t.collab.videoMode == .mode1,
        t.collab.inputs == []]) = true := by
  decide

/-- The word placed for a fetch from reset runs as the first instruction (log entries 17 and 18). -/
theorem test_withFetchWord :
    after (State.reset.withFetchWord 8 0x3C) 4 (fun t => [t.regs.a == 0x01, t.regs.pc == 0x0001]) = true ∧
      after (State.reset.withFetchWord 16 0xCBC7) 8 (fun t => [t.regs.a == 0x01, t.regs.pc == 0x0002]) = true := by
  decide

/-! ### Witnesses: states and operands that meet the hypotheses of each statement -/

/-- A locked engine with its record. -/
def lockedState : State :=
  { State.reset with engine := { State.reset.engine with locked := true, faults := [⟨.illegalOpcode, 0xD3, 0x0100⟩] } }

/-- A halted engine. -/
def haltedState : State := { State.reset with engine := { State.reset.engine with halted := true } }

/-- A state with SP in WRAM. -/
def stackState : State := start [] [writeR16 .sp 0xD000]

/-- DecodeOfEncode. -/
theorem witness_DecodeOfEncode : (Instr.jpA16 0xFFFF).wellFormed = true ∧ Instr.set7A.wellFormed = true := by decide

/-- EncodeOfDecode. -/
theorem witness_EncodeOfDecode : decode [0x10, 0xFF, 0x00] = .ok (.stop 0xFF, [0x00]) := by decide

/-- DecodeIsTotal: both sides of the equivalence. -/
theorem witness_DecodeIsTotal :
    instrLength 0xC3 = 3 ∧ decode [0xC3, 0x34, 0x12] = .ok (.jpA16 0x1234, []) ∧ instrLength 0xCB = 2 := by
  decide

/-- RegisterBlockFields: the two fields nearest the excluded pair. -/
theorem witness_RegisterBlockFields :
    ¬((6 : BitVec 3) = 6 ∧ (7 : BitVec 3) = 6) ∧ ¬((5 : BitVec 3) = 6 ∧ (6 : BitVec 3) = 6) := by
  decide

/-- RouterRegionMap: the first and the last address of every clause. -/
theorem witness_RouterRegionMap :
    [0x0000, 0x00FF, 0x0100, 0x7FFF, 0x8000, 0x9FFF, 0xA000, 0xBFFF, 0xC000, 0xDFFF, 0xE000, 0xFDFF, 0xFE00, 0xFE9F,
        0xFEA0, 0xFEFF, 0xFF00, 0xFF7F, 0xFF80, 0xFFFE, 0xFFFF].map regionOf =
      [.bootWindow, .bootWindow, .cartRom, .cartRom, .vram, .vram, .cartRam, .cartRam, .wram, .wram, .echo, .echo,
        .oam, .oam, .unusable, .unusable, .io, .io, .hram, .hram, .ieReg] := by
  decide

/-- IoRegisterMap: the addresses beside the core's own, all of the last clause. -/
theorem witness_IoRegisterMap :
    [0xFF00, 0xFF03, 0xFF08, 0xFF0E, 0xFF10, 0xFF4F, 0xFF51, 0xFF7F].all extOwned = true ∧
      [0xFF04, 0xFF05, 0xFF06, 0xFF07, 0xFF0F, 0xFF50].any extOwned = false := by
  decide

/-- EchoNamesWram: both ends. -/
theorem witness_EchoNamesWram :
    0xE000 ≤ (0xE000 : Addr).toNat ∧ (0xE000 : Addr).toNat ≤ 0xFDFF ∧ 0xE000 ≤ (0xFDFF : Addr).toNat ∧
      (0xFDFF : Addr).toNat ≤ 0xFDFF := by
  decide

/-- A device with a cartridge other than the default one. -/
def withCart (n : Nat) (s : State) : State := { s with collab := { s.collab with cart := .supplied n } }

/-- StoreThenLoad: a writable byte at each end of its regions, an address no store there reaches, and both kinds of
cartridge. -/
theorem witness_StoreThenLoad :
    Memory.wf State.reset.mem = true ∧
      [0x8000, 0x9FFF, 0xC000, 0xDFFF, 0xE000, 0xFDFF, 0xFE00, 0xFE9F, 0xFF80, 0xFFFE].all (ramAt State.reset) = true ∧
      answeredOutside State.reset 0xFF04 = false ∧ answeredOutside State.reset 0xBFFF = false ∧
      answeredOutside (withCart 0 State.reset) 0x00FF = false ∧ reaches 0xC000 0xFF04 = false ∧ reaches 0xFF50 0x0100 = false ∧
      reaches 0xFF50 0x00FF = true ∧ reaches 0xE000 0xC000 = true ∧
      State.reset.collab.cart = .romOnly ∧ (withCart 0 State.reset).collab.cart = .supplied 0 := by
  decide

/-- ReadsHaveNoSideEffect: an address of each clause, with both kinds of cartridge, and the overlay window with the
overlay on and off. -/
theorem witness_ReadsHaveNoSideEffect :
    let off := { State.reset with bootDisabled := true }
    answeredOutside State.reset 0xFF0F = false ∧ extOwned 0xFF10 = true ∧ answeredOutside State.reset 0xFF10 = true ∧
      answeredOutside off 0x00FF = false ∧ State.reset.collab.cart = .romOnly ∧
      (0x00FF : Addr).toNat ≤ 0x7FFF ∧ off.bootDisabled = true ∧
      (withCart 7 off).collab.cart = .supplied 7 ∧ answeredOutside (withCart 7 off) 0x00FF = true ∧
      answeredOutside (withCart 7 off) 0x7FFF = true ∧ answeredOutside (withCart 7 off) 0xA000 = true := by
  decide

/-- LoadByteRuns, LoadAThroughPairRuns, StoreAThroughPairRuns, AbsoluteLoadStoreRuns, LoadWordRuns. -/
theorem witness_loads :
    Instr.ldAtHlH.form = .ld .atHl .h ∧ (Instr.ldAtHlD8 0xFF).form = .ldImm .atHl 0xFF ∧
      Instr.ldAAtHlInc.form = .ldA .hlInc ∧ Instr.ldAAtBc.form = .ldA .bc ∧ Instr.ldAAtDe.form = .ldA .de ∧
      Instr.ldAAtHlDec.form = .ldA .hlDec ∧ Instr.ldAtHlIncA.form = .stA .hlInc ∧ Instr.ldAtBcA.form = .stA .bc ∧
      Instr.ldAtDeA.form = .stA .de ∧ Instr.ldAtHlDecA.form = .stA .hlDec ∧
      (Instr.ldAAtA16 0xFFFF).form = .ldAbs 0xFFFF ∧ (Instr.ldhAAtA8 0xFF).form = .ldh 0xFF ∧
      Instr.ldAAtC.form = .ldC ∧ (Instr.ldAtA16A 0x0000).form = .stAbs 0x0000 ∧
      (Instr.ldhAtA8A 0x00).form = .sth 0x00 ∧ Instr.ldAtCA.form = .stC ∧
      (Instr.ldSpD16 0xFFFF).form = .ld16 .sp 0xFFFF ∧ Instr.ldSpHl.form = .ldSpHl ∧
      (Instr.ldAtA16Sp 0xFFFF).form = .stSp 0xFFFF := by
  decide

/-- PushRuns, PopRuns, PushThenPopCopies, and the stack of CallThenReturnComesBack and ServiceThenRetiComesBack: the
forms, and a stack in writable memory at both ends of HRAM. -/
theorem witness_stack :
    Instr.pushAf.form = .push .af ∧ Instr.popHl.form = .pop .hl ∧ Memory.wf stackState.mem = true ∧
      ramAt stackState (stackState.regs.sp - 2) = true ∧ ramAt stackState (stackState.regs.sp - 1) = true ∧
      ramAt (setSp stackState 0xFFFF) 0xFFFD = true ∧ ramAt (setSp stackState 0xFFFF) 0xFFFE = true := by
  decide

/-- AddRuns, SubRuns, LogicRuns, IncDecByteRuns, DaaRuns, FlagInstructionsRun. -/
theorem witness_alu8 :
    Instr.addAAtHl.form = .alu .add .atHl ∧ (Instr.adcAD8 0xFF).form = .aluImm .adc 0xFF ∧
      Instr.sbcAA.form = .alu .sbc .a ∧ (Instr.cpAD8 0x00).form = .aluImm .cp 0x00 ∧ Instr.subAB.form = .alu .sub .b ∧
      Instr.cpAAtHl.form = .alu .cp .atHl ∧ Instr.andAB.form = .alu .and .b ∧ Instr.xorAA.form = .alu .xor .a ∧
      Instr.orAAtHl.form = .alu .or .atHl ∧ (Instr.orAD8 0x01).form = .aluImm .or 0x01 ∧
      Instr.incAtHl.form = .inc8 .atHl ∧ Instr.decA.form = .dec8 .a ∧ Instr.daa.form = .daa ∧ Instr.cpl.form = .cpl ∧
      Instr.scf.form = .scf ∧ Instr.ccf.form = .ccf ∧ flagN State.reset = false ∧
      flagN (setF State.reset 0x40) = true := by
  decide

/-- BcdArithmetic: both ends of the packed range. -/
theorem witness_BcdArithmetic :
    (99 < 100 ∧ 0 < 100 ∧ (setA State.reset 0x99).regs.a = bcd 99) ∧ State.reset.regs.a = bcd 0 := by
  decide

/-- IncDecWordRuns, AddHlRuns, SpOffsetRuns. -/
theorem witness_alu16 :
    Instr.incSp.form = .inc16 .sp ∧ Instr.decBc.form = .dec16 .bc ∧ Instr.addHlHl.form = .addHl .hl ∧
      (Instr.addSpE8 0x80).form = .addSp 0x80 ∧ (Instr.ldHlSpE8 0x7F).form = .ldHlSp 0x7F := by
  decide

/-- AccumulatorRotatesRun, RotatesAndShiftsRun, BitTestRuns, ResAndSetRun. -/
theorem witness_bits :
    Instr.rra.form = .rotA .rr ∧ Instr.swapAtHl.form = .rot .swap .atHl ∧ Instr.bit7A.form = .bit 7 .a ∧
      Instr.bit0AtHl.form = .bit 0 .atHl ∧ Instr.res7AtHl.form = .res 7 .atHl ∧ Instr.set0C.form = .set 0 .c := by
  decide

/-- JumpsRun, CallsRun, ReturnsRun, CallThenReturnComesBack: the forms, and a condition both ways. -/
theorem witness_control :
    (Instr.jpA16 0x1234).form = .jp 0x1234 ∧ (Instr.jpNzA16 0x1234).form = .jpCc .nz 0x1234 ∧ Instr.jpHl.form = .jpHl ∧
      (Instr.jrE8 0x80).form = .jr 0x80 ∧ (Instr.jrCE8 0x7F).form = .jrCc .c 0x7F ∧
      (Instr.callA16 0x3000).form = .call 0x3000 ∧ (Instr.callNzA16 0x3000).form = .callCc .nz 0x3000 ∧
      (Instr.callCA16 0x3000).form = .callCc .c 0x3000 ∧ Instr.rst38.form = .rst 7 ∧ Instr.ret.form = .ret ∧
      Instr.retNc.form = .retCc .nc ∧ Instr.retZ.form = .retCc .z ∧ Instr.reti.form = .reti ∧
      condHolds .nz stackState = true ∧ condHolds .nc stackState = true ∧ condHolds .c stackState = false ∧
      condHolds .z stackState = false ∧ Memory.wf stackState.mem = true := by
  decide

/-- NopHaltDiEiRun: the forms, and each case of HALT. -/
theorem witness_NopHaltDiEiRun :
    Instr.nop.form = .nop ∧ Instr.halt.form = .halt ∧ Instr.di.form = .di ∧ Instr.ei.form = .ei ∧
      (withIme true State.reset).engine.ime = true ∧ pendingMask State.reset = 0 ∧
      State.reset.engine.ime = false ∧ pendingMask (withIrq 0x10 0x10 State.reset) ≠ 0 ∧
      State.reset.params.haltBug = true ∧
      ({ State.reset with params := { State.reset.params with haltBug := false } } : State).params.haltBug = false := by
  decide

/-- IllegalOpcodeLocks. -/
theorem witness_IllegalOpcodeLocks : Instr.illegalFD.form = .illegal 0xFD ∧ Instr.illegalD3.form = .illegal 0xD3 := by
  decide

/-- RegisterFrame and MemoryFrame: an instruction that stores nothing, one that stores, and what each leaves. -/
theorem witness_frames :
    (Instr.incB.wellFormed = true ∧ exec .incB State.reset = .next (incR8 .b State.reset) ∧ R8.a ∉ formRegs Instr.incB.form ∧
      formWritesSp Instr.incB.form = false ∧ formWritesPc Instr.incB.form = false ∧
      formWritesEngine Instr.incB.form = false ∧ storeTargets State.reset Instr.incB.form = []) ∧
    (Instr.pushBc.wellFormed = true ∧ exec .pushBc stackState = .next (pushStk .bc stackState) ∧
      formWritesF Instr.pushBc.form = false ∧ storeTargets stackState Instr.pushBc.form = [0xCFFE, 0xCFFF] ∧
      answeredOutside stackState 0xCFFD = false ∧ reaches 0xCFFE 0xCFFD = false ∧ reaches 0xCFFF 0xCFFD = false) :=
  ⟨⟨rfl, rfl, by decide⟩, rfl, rfl, by decide⟩

/-- StepRunsDecoded and FetchFollowsPc: an instruction of three bytes in WRAM, with and without the halt bug. -/
theorem witness_StepRunsDecoded :
    let s := start [] [(setPc · 0xC000), poke 0xC000 0xC3, poke 0xC001 0x34, poke 0xC002 0x12]
    s.engine.refused = false ∧ cpuPart (atStepStart s) = .execute ∧ s.engine.haltBug = false ∧
      (∀ k, k < 3 → answeredOutside (atStepStart s) (0xC000 + BitVec.ofNat 16 k) = false) ∧ instrLength (peek s 0xC000) = 3 ∧
      decode [peek (atStepStart s) 0xC000, peek (atStepStart s) 0xC001, peek (atStepStart s) 0xC002] =
        .ok (.jpA16 0x1234, []) ∧
      decode (fetchInstr { atStepStart s with engine := { (atStepStart s).engine with halted := false } }).1 =
        .ok (.jpA16 0x1234, []) := by
  decide

/-- StepRunsDecoded: an instruction of three bytes whose bytes the first clause alone reaches, answers of `EXT_IO`. -/
theorem witness_StepRunsDecoded_outside :
    let s :=
      setPc
        { State.reset with
          bootDisabled := true
          collab := { State.reset.collab with extAnswers := [0xC3, 0x34, 0x12] } } 0xFF10
    s.engine.refused = false ∧ cpuPart (atStepStart s) = .execute ∧ answeredOutside (atStepStart s) 0xFF10 = true ∧
      decode (fetchInstr { atStepStart s with engine := { (atStepStart s).engine with halted := false } }).1 =
        .ok (.jpA16 0x1234, []) := by
  decide

/-- InterruptServiceRuns: the first source pending, and the last one alone. -/
theorem witness_InterruptServiceRuns :
    let s := start [] [withIme true, withIrq 0x1F 0x1F]
    let u := start [] [withIme true, withIrq 0x1F 0x10]
    (s.engine.refused = false ∧ s.engine.locked = false ∧ s.engine.ime = true ∧
      (atStepStart s).irq.ie.getLsbD 0 = true ∧ (atStepStart s).irq.ifl.getLsbD 0 = true) ∧
    (u.engine.ime = true ∧
      (∀ k, k < 4 → ((atStepStart u).irq.ie.getLsbD k && (atStepStart u).irq.ifl.getLsbD k) = false) ∧
      (atStepStart u).irq.ie.getLsbD 4 = true ∧ (atStepStart u).irq.ifl.getLsbD 4 = true) := by
  decide

/-- IdleSteps: a locked state, and a halted one with nothing pending. -/
theorem witness_IdleSteps :
    (lockedState.engine.refused = false ∧ lockedState.engine.locked = true) ∧
      (haltedState.engine.refused = false ∧ haltedState.engine.halted = true ∧
        (atStepStart haltedState).irq.ie.extractLsb' 0 5 &&& (atStepStart haltedState).irq.ifl = 0) := by
  decide

/-- One instruction ends in a next state, and the bytes fetched are the instruction `i`. -/
def executes (s : State) (i : Instr) : Bool :=
  match executeOne s with
  | .next _ => decide (decode (fetchInstr s).1 = .ok (i, []))
  | .fault _ => false
  | .refused _ => false

/-- ImeFollowsEiDiReti: one state for each clause. -/
theorem witness_ImeFollowsEiDiReti :
    executes (start [0xF3] []) .di = true ∧ executes (start [0xD9] []) .reti = true ∧
      executes (start [0xFD] []) .illegalFD = true ∧ executes (start [0xFB] []) .ei = true ∧
      executes (start [0x00] []) .nop = true ∧ (start [0xFB] []).engine.locked = false ∧
      Instr.illegalFD.form = .illegal 0xFD := by
  decide

/-- TimerClosedForm: stopped, running without an overflow, and at the last value before and the first after one. -/
theorem witness_TimerClosedForm :
    (3 : BitVec 3).getLsbD 2 = false ∧ (5 : BitVec 3).getLsbD 2 = true ∧ 0xFE + (0 + 16) / 16 ≤ 255 ∧
      255 < 0xFE + (0 + 32) / 16 := by
  decide

/-- AdvanceFootprint: a request bit already set, and a key on either side of OAM. -/
theorem witness_AdvanceFootprint :
    (withIrq 0 0x10 State.reset).irq.ifl.getLsbD 4 = true ∧ (0xFDFF < 0xFE00 ∨ 0xFE9F < 0xFDFF) ∧
      (0xFEA0 < 0xFE00 ∨ 0xFE9F < 0xFEA0) := by
  decide

/-- The step has a next state, said as a Bool. -/
def goesOn (s : State) : Bool :=
  match step s with
  | .next _ => true
  | .fault _ => false
  | .refused _ => false

/-- The invariant holds at reset and in the locked state. -/
theorem witness_Inv : State.reset.Inv ∧ lockedState.Inv :=
  ⟨⟨rfl, rfl, (fun _ _ h => nomatch h), rfl, by decide, by decide⟩,
    ⟨rfl, rfl, (fun _ _ h => nomatch h), rfl, by decide, by decide⟩⟩

/-- StepKeepsInvariant and StepNeverUndoes: next states from reset and from a locked engine, and a running timer. -/
theorem witness_steps :
    goesOn State.reset = true ∧ goesOn lockedState = true ∧ lockedState.engine.locked = true ∧
      (start [] []).bootDisabled = true ∧ goesOn (start [] []) = true ∧
      timerEnabled (withTimer 0 0 0 0 7 State.reset).timer.tac = true := by
  decide

/-- StepStopsOnlyAtStop: both ways a step is refused. -/
theorem witness_StepStopsOnlyAtStop :
    step { State.reset with engine := { State.reset.engine with refused := true } } = .refused .alreadyRefused ∧
      step (start [0x10] []) = .refused (.stopUnmodelled 0x0100) :=
  ⟨rfl, rfl⟩

/-- PowerOnState: a cartridge that the older device refuses, and one it takes. -/
theorem witness_PowerOnState :
    (List.replicate 0x0143 0x00 ++ [0xC0] : List Byte).getD 0x0143 0x00 = 0xC0 ∧
      ¬(Config.Gen.dmg = .dmg ∧ ([] : List Byte).getD 0x0143 0x00 = 0xC0) := by
  decide +kernel

/-- A device of a generation whose cartridge image has a header byte 0x0143. -/
def withHeader (gen : Config.Gen) (v : Byte) : State :=
  { State.reset with mem := Memory.write [] 0x0143 v, params := { State.reset.params with gen := gen } }

/-- BootSkipDmg: an older device with a cartridge that is not newer-generation only. -/
theorem witness_BootSkipDmg :
    (withHeader .dmg 0x80).params.gen = .dmg ∧ Memory.read (withHeader .dmg 0x80).mem 0x0143 ≠ 0xC0 := by
  decide

/-- BootSkipKey: each clause has a device that meets its premises, an older one with a newer-only cartridge, an older
one with any other, and a newer one. -/
theorem witness_BootSkipKey :
    ((withHeader .dmg 0xC0).params.gen = .dmg ∧ Memory.read (withHeader .dmg 0xC0).mem 0x0143 = 0xC0) ∧
      ((withHeader .dmg 0x80).params.gen = .dmg ∧ Memory.read (withHeader .dmg 0x80).mem 0x0143 ≠ 0xC0) ∧
      (withHeader .cgb 0x80).params.gen = .cgb :=
  ⟨⟨rfl, rfl⟩, ⟨rfl, by decide⟩, rfl⟩

/-- A device whose byte access and machine cycle cost other numbers of T-cycles (00_scope.md R6). -/
def withCosts (memT mT : Nat) (s : State) : State := { s with params := { s.params with memT := memT, mT := mT } }

/-- CALL is three fetches, two writes and one internal M-cycle, RET NZ untaken one fetch and one internal
(70_reset_and_hazards.md R397), at MEM_T = 5 and M_T = 7. -/
theorem test_costs_are_parameters :
    after (start [0xCD, 0x00, 0x30] [withCosts 5 7]) 32 (fun t => [t.totalCycles == 32]) = true ∧
      after (start [0xC0] [withCosts 5 7, fun s => setFlags s true false false false]) 12 (fun _ => []) = true := by
  decide

/-- Interrupt service is two writes and three M-cycles (60_exceptions.md R335), a halted step one M-cycle. -/
theorem test_step_costs_are_parameters :
    after (withCosts 5 7
      { start [0x00] [] with engine := { State.reset.engine with ime := true }, irq := { ie := 1, ifl := 1 } }) 31
        (fun _ => []) = true ∧
      after (withCosts 5 7 { start [0x00] [] with engine := { State.reset.engine with halted := true } }) 7
        (fun _ => []) = true := by
  decide

/-- The pair of an older device and a newer-only cartridge has no boot-skip (70_reset_and_hazards.md R385). -/
theorem test_bootSkip_no_pair : bootSkip (withHeader .dmg 0xC0) = none := rfl

/-- DMA cannot request the Timer (10_state.md R35): of five bits asked for, four are requested. -/
theorem test_dma_requests : (dmaAdvance { quietInput with dmaRequests := 0b11111 } State.reset).irq.ifl = 0b11011 := by
  decide

/-- A read of a cartridge other than the default one is its own answer (20_memory.md R75). -/
theorem test_cart_supplied :
    readByte (withCart 5 State.reset) 0xA123 =
      (Config.cartByte 5 0xA123, withCart (Config.cartAfterRead 5 0xA123) State.reset) :=
  rfl

end Sys2Proof.Tests
end

namespace Sys2Proof

/-! ### The decoder: which first byte an instruction has -/

/-- What stands at an opcode of the primary map: instructions whose encoding is that opcode and their operand, or the
escape at its own opcode (30_encoding.md R101, R113). -/
def CellEncodes (op : Byte) : Cell → Prop
  | .one i => encode i = [op]
  | .two k => (fun b => encode (k b)) = fun b => [op, b]
  | .three k => (fun w => encode (k w)) = fun w => [op, immLo w, immHi w]
  | .escape => op = 0xCB

/-- The 256 cells of the primary map, each at the opcode it encodes to. -/
theorem primaryCell_encodes (op : Byte) : CellEncodes op (primaryCell op) := by
  have table : ∀ n < 256, CellEncodes (BitVec.ofNat 8 n) (primaryCell (BitVec.ofNat 8 n)) := by
    intro n hn
    interval_cases n <;> exact rfl
  simpa using table op.toNat op.isLt

/-- The secondary map, each instruction at the byte it encodes to (30_encoding.md R112, R114). -/
theorem encode_secondaryInstr : ∀ cb : Byte, encode (secondaryInstr cb) = [0xCB, cb] := by
  decide +kernel

/-- An instruction encodes to a run that begins with the byte it was decoded at. -/
theorem decode_encode_head {op : Byte} {rest r : List Byte} {i : Instr} (h : decode (op :: rest) = .ok (i, r)) :
    (encode i).head? = some op := by
  have hc := primaryCell_encodes op
  simp only [decode] at h
  cases hp : primaryCell op <;> simp only [hp] at h hc
  case one i' =>
    cases h
    exact congrArg List.head? hc
  case two k =>
    rcases rest with _ | ⟨b, rest⟩ <;> cases h
    exact congrArg List.head? (congrFun hc b)
  case three k =>
    rcases rest with _ | ⟨b, _ | ⟨c, rest⟩⟩ <;> cases h
    exact congrArg List.head? (congrFun hc (imm16 b c))
  case escape =>
    rcases rest with _ | ⟨cb, rest⟩ <;> cases h
    rw [encode_secondaryInstr, hc]
    rfl

namespace Machine

/-- Only the opcode 0x10 decodes to STOP (45_system.md R303). -/
theorem decode_stop {op : Byte} {rest r : List Byte} {i : Instr} (h : decode (op :: rest) = .ok (i, r))
    (hi : isStop i.form = true) : op = 0x10 := by
  have hd := decode_encode_head h
  cases i with
  | stop v => exact (Option.some.inj hd).symm
  | _ => exact absurd hi Bool.false_ne_true

/-! ### What a step can do -/

/-- The state an execution starts from, no longer halted (60_exceptions.md R350). -/
def awake (s : State) : State := { s with engine := { s.engine with halted := false } }

/-- The state in which the fetched instruction takes effect. -/
def fetched (s : State) : State := (fetchInstr (awake s)).2

/-- The state after an executed instruction of a form, its EI delay included (60_exceptions.md R351). -/
def executed (f : Form) (s : State) : State := applyEiDelay s.engine.imeScheduled (formEffect f (fetched s))

/-- The states the CPU part of a step can end in, from a state in which the host events have happened
(60_exceptions.md R350): an idle slot, the service of a source, or one instruction that is not STOP. -/
inductive CpuEnds (s : State) : State → Prop where
  | idle : CpuEnds s (charge s 0 1)
  | service (n : Fin 5) : CpuEnds s (serviceSource s n)
  | execute (f : Form) (hf : isStop f = false) : CpuEnds s (executed f s)

/-- Every outcome of a step: the end of its CPU part and then the advances; the refusal of a refused state; the refusal
of STOP, whose opcode an unlocked engine finds at PC (60_exceptions.md R350, 45_system.md R303). -/
theorem step_ends (s : State) :
    (∃ u, CpuEnds (atStepStart s) u ∧ step s = .next (advanceAll (currentInput s) u)) ∨
      (s.engine.refused = true ∧ step s = .refused .alreadyRefused) ∨
      (s.engine.locked = false ∧ peek (atStepStart s) s.regs.pc = 0x10 ∧
        step s = .refused (.stopUnmodelled s.regs.pc)) := by
  rcases step_cases s with ⟨hr, e⟩ | ⟨-, ⟨e, -⟩ | ⟨e, -, -, hp⟩ | ⟨hl, -, e⟩⟩
  · exact .inr (.inl ⟨hr, e⟩)
  · exact .inl ⟨_, .idle, e⟩
  · obtain ⟨n, -, hn⟩ := serviceInterrupt_pending _ hp
    exact .inl ⟨_, .service n, e.trans (by rw [hn]; rfl)⟩
  · change step s = match executeOne (awake (atStepStart s)) with
      | .next t => .next (advanceAll (currentInput s) t)
      | .fault r => .fault r
      | .refused r => .refused r at e
    obtain ⟨i, hd, ⟨hi, x⟩ | ⟨hi, x⟩⟩ := executeOne_cases (awake (atStepStart s)) <;> rw [x] at e
    · exact .inl ⟨_, .execute i.form hi, e⟩
    · rw [fetchInstr_fst] at hd
      refine .inr (.inr ⟨hl, ?_, e⟩)
      rw [← peek_engine]
      exact decode_stop hd hi

/-- A step that ends in a next state is the end of its CPU part, then the advances. -/
theorem step_next {s t : State} (h : step s = .next t) :
    ∃ u, CpuEnds (atStepStart s) u ∧ t = advanceAll (currentInput s) u := by
  rcases step_ends s with ⟨u, hu, e⟩ | ⟨-, e⟩ | ⟨-, -, e⟩ <;> cases e.symm.trans h
  exact ⟨u, hu, rfl⟩

/-- Settles O56: of the three outcomes of a step none is a fault and two are refusals. -/
theorem stepStopsOnlyAtStop : Obligations.StepStopsOnlyAtStop := by
  intro s
  rcases step_ends s with ⟨u, -, e⟩ | ⟨hr, e⟩ | ⟨hl, hp, e⟩ <;> rw [e]
  · exact ⟨nofun, nofun⟩
  · exact ⟨nofun, fun _ h => by cases h; exact .inl ⟨rfl, hr⟩⟩
  · exact ⟨nofun, fun _ h => by cases h; exact .inr ⟨rfl, hl, hp⟩⟩

end Machine
end Sys2Proof

namespace Sys2Proof.Machine

/-! ### What the CPU part of a step keeps -/

/-- A fetch keeps what every operation keeps, but for the address of the opcode. -/
theorem keeps_fetchInstr (s : State) : Keeps { s with opAddr := s.regs.pc } (fetchInstr s).2 := by
  have opcode : Keeps { s with opAddr := s.regs.pc } (fetchOpcode s).2 := by
    obtain ⟨hw, hb, hf, hd, hr, hp, ht, -, hv, hi, he, hc⟩ := keeps_readByte s s.regs.pc
    exact ⟨hw, hb, hf, hd, hr, hp, ht, rfl, hv, hi, he, hc⟩
  exact opcode.trans (keeps_fetchMore _ _)

/-- The CPU part of a step keeps what every operation keeps, but for the address of the opcode. -/
theorem CpuEnds.keeps {s u : State} (h : CpuEnds s u) : Keeps { s with opAddr := u.opAddr } u := by
  cases h with
  | idle => exact keeps_charge s 0 1
  | service n =>
    rw [(keeps_serviceSource s n).opAddr]
    exact keeps_serviceSource s n
  | execute f hf =>
    have effect := (keeps_formEffect (fetched s) f).trans (keeps_applyEiDelay _ s.engine.imeScheduled)
    have ha : (executed f s).opAddr = s.regs.pc := effect.opAddr.trans (fetchInstr_opAddr (awake s))
    have wake : Keeps { s with opAddr := s.regs.pc } { awake s with opAddr := s.regs.pc } := keeps_engine rfl rfl
    rw [ha]
    exact (wake.trans (keeps_fetchInstr (awake s))).trans effect

/-- Between two engines no lock is undone and no record lost, and one comes only with the other (10_state.md R32,
60_exceptions.md R325). -/
def LockGrows (e e' : Engine) : Prop :=
  (e'.locked = e.locked ∧ e'.faults = e.faults) ∨ (e'.locked = true ∧ ∃ r, e'.faults = e.faults ++ [r])

theorem LockGrows.locked {e e' : Engine} (h : LockGrows e e') (hl : e.locked = true) : e'.locked = true := by
  rcases h with ⟨h, -⟩ | ⟨h, -⟩
  · exact h.trans hl
  · exact h

theorem LockGrows.faults {e e' : Engine} (h : LockGrows e e') : ∃ more, e'.faults = e.faults ++ more := by
  rcases h with ⟨-, h⟩ | ⟨-, r, h⟩
  · exact ⟨[], by rw [h, List.append_nil]⟩
  · exact ⟨[r], h⟩

theorem LockGrows.lockedIff {e e' : Engine} (h : LockGrows e e') (hi : e.locked = true ↔ e.faults ≠ []) :
    e'.locked = true ↔ e'.faults ≠ [] := by
  rcases h with ⟨hl, hf⟩ | ⟨hl, r, hf⟩
  · rwa [hl, hf]
  · simp [hl, hf]

/-- Only an illegal opcode locks, and it leaves a record (45_system.md R307). -/
theorem formEngine_lockGrows (f : Form) (s : State) : LockGrows s.engine (formEngine f s) := by
  cases f with
  | illegal op => exact .inr ⟨rfl, _, rfl⟩
  | halt => rcases haltEngine_engine s with h | h | h <;> exact .inl (by rw [formEngine, h]; exact ⟨rfl, rfl⟩)
  | _ => exact .inl ⟨rfl, rfl⟩

/-- From an engine that neither waits nor has the halt bug pending, an instruction sets at most one of the two
(45_system.md R301). -/
theorem formEngine_notBoth (f : Form) {s : State} (h : s.engine.halted = false) (hb : s.engine.haltBug = false) :
    ¬((formEngine f s).halted = true ∧ (formEngine f s).haltBug = true) := by
  cases f with
  | halt => rcases haltEngine_engine s with e | e | e <;> simp [formEngine, e, h, hb]
  | _ => simp [formEngine, raiseLock, h]

/-- The engine after the fetch: awake, and the halt bug over. -/
theorem fetched_engine (s : State) : (fetched s).engine = { s.engine with halted := false, haltBug := false } :=
  fetchInstr_engine (awake s)

/-- The engine after an executed instruction is that of its form, with the EI delay or without. -/
theorem executed_engine (f : Form) (s : State) :
    (executed f s).engine = formEngine f (fetched s) ∨
      (executed f s).engine = { formEngine f (fetched s) with ime := true, imeScheduled := false } := by
  rw [← formEffect_engine]
  exact applyEiDelay_engine _ _

theorem CpuEnds.lockGrows {s u : State} (h : CpuEnds s u) : LockGrows s.engine u.engine := by
  cases h with
  | idle => exact .inl ⟨rfl, rfl⟩
  | service n =>
    obtain ⟨-, he, -⟩ := serviceSource_facts s n
    rw [he]
    exact .inl ⟨rfl, rfl⟩
  | execute f hf =>
    have grows := formEngine_lockGrows f (fetched s)
    rw [fetched_engine] at grows
    rcases executed_engine f s with e | e <;> rw [e] <;> exact grows

theorem CpuEnds.notBoth {s u : State} (h : CpuEnds s u) (hs : ¬(s.engine.halted = true ∧ s.engine.haltBug = true)) :
    ¬(u.engine.halted = true ∧ u.engine.haltBug = true) := by
  cases h with
  | idle => exact hs
  | service n =>
    obtain ⟨-, he, -⟩ := serviceSource_facts s n
    simp [he]
  | execute f hf =>
    have neither := formEngine_notBoth f (s := fetched s) (by rw [fetched_engine]) (by rw [fetched_engine])
    rcases executed_engine f s with e | e <;> rw [e] <;> exact neither

/-- The CPU part of a step costs a byte access or a machine cycle at least (60_exceptions.md R350). -/
theorem CpuEnds.cost {s u : State} (h : CpuEnds s u) : min s.params.memT s.params.mT ≤ u.cost := by
  cases h with
  | idle => exact (Nat.min_le_right _ _).trans (by simp [tCycles])
  | service n =>
    obtain ⟨-, -, -, -, -, hc⟩ := serviceSource_facts s n
    rw [hc]
    exact (Nat.min_le_left _ _).trans (memT_le_tCycles _ _ (by decide))
  | execute f hf =>
    have hp : (fetched s).params = s.params := (keeps_fetchInstr (awake s)).params
    rw [executed, applyEiDelay_cost, ← hp]
    exact (Nat.min_le_left _ _).trans (formEffect_cost hf _)

/-! ### The invariant -/

/-- DMA stores under backed keys alone (60_exceptions.md R362). -/
theorem backed_dmaWriteOam {xs : List (Fin 160 × Byte)} {m : List Host.Cell}
    (h : ∀ n v, (n, v) ∈ m → backed n = true) (n : Nat) (v : Byte) (hn : (n, v) ∈ dmaWriteOam xs m) :
    backed n = true := by
  rcases memory_mem_dmaWriteOam hn with hr | ⟨w, hw⟩
  · simp [backed, hr]
  · exact h n w hw

/-- A running sub-timer is drained below its period (10_state.md R41, 60_exceptions.md R341). -/
theorem timerAdvance_drained (n : Nat) (s : State) (h : timerEnabled (timerAdvance n s).timer.tac = true) :
    (timerAdvance n s).timer.acc < timerPeriod (timerAdvance n s).timer.tac := by
  unfold timerAdvance at h ⊢
  dsimp only at h ⊢
  split at h
  · rename_i hon
    rw [if_pos hon]
    obtain ⟨ha, -, ht, -⟩ := timerLoop_facts (timerPeriod_pos s.timer.tac) _
      ({ s.timer with
          sysCounter := s.timer.sysCounter + BitVec.ofNat 16 n, acc := s.timer.acc + n }, s.irq.ifl) le_rfl
    rw [ha, ht]
    exact Nat.mod_lt _ (timerPeriod_pos _)
  · rename_i hoff
    exact absurd h hoff

theorem advanceAll_drained (x : StepInput) (s : State) (h : timerEnabled (advanceAll x s).timer.tac = true) :
    (advanceAll x s).timer.acc < timerPeriod (advanceAll x s).timer.tac :=
  timerAdvance_drained s.cost (videoAdvance x (dmaAdvance x s)) h

/-- Settles O55: the CPU part keeps memory, F and the lock's record, and the advances store in OAM alone. -/
theorem stepKeepsInvariant : Obligations.StepKeepsInvariant := by
  intro s t inv h
  obtain ⟨u, hu, rfl⟩ := step_next h
  obtain ⟨hregs, hengine, -, hboot, -, -, -, -, -, hmem⟩ := advanceAll_facts u (currentInput s)
  have keeps := hu.keeps
  refine ⟨⟨?_, ?_, ?_, ?_, ?_, ?_⟩, advanceAll_drained _ u⟩
  · rw [hmem]
    exact memory_wf_dmaWriteOam _ (keeps.memWf inv.memWf)
  · rw [hboot, keeps.bootRom]
    exact inv.bootWf
  · rw [hmem]
    exact backed_dmaWriteOam (keeps.memBacked inv.memBacked)
  · rw [hregs]
    exact keeps.fLow inv.fLowZero
  · rw [hengine]
    exact hu.lockGrows.lockedIff inv.lockedIff
  · rw [hengine]
    exact hu.notBoth inv.notBoth

/-- Settles O57: each part is kept by the CPU part and by the advances, which add the cost to the total. -/
theorem stepNeverUndoes : Obligations.StepNeverUndoes := by
  intro s t h
  obtain ⟨u, hu, rfl⟩ := step_next h
  obtain ⟨-, hengine, hlatch, hboot, hparams, -, hcost, -, htotal, -⟩ := advanceAll_facts u (currentInput s)
  have keeps := hu.keeps
  rw [hengine, hlatch, hboot, hparams, hcost, htotal]
  exact ⟨keeps.bootDisabled, hu.lockGrows.locked, hu.lockGrows.faults, keeps.refused, keeps.params, keeps.bootRom,
    congrArg (· + u.cost) keeps.totalCycles, hu.cost⟩

end Sys2Proof.Machine

namespace Sys2Proof.Machine

/-! ### Reset and construction -/

/-- Settles O54: nothing is listed, and every field is at the value reset gives it. -/
theorem resetHasInvariant : Obligations.ResetHasInvariant where
  memWf := rfl
  bootWf := rfl
  memBacked := nofun
  fLowZero := rfl
  lockedIff := by simp [State.reset]
  notBoth := by simp [State.reset]

/-- An image cut to `k` bytes and loaded at key 0 reads as the image below `k`, and 0x00 from there on. -/
theorem memory_read_load_take (image : List Byte) (k n : Nat) :
    Memory.read (Memory.load [] 0 (image.take k)) n = if n < k then image.getD n 0x00 else 0x00 := by
  rw [memory_read_load _ (m := []) rfl, Nat.sub_zero, Nat.zero_add, List.length_take]
  by_cases hk : n < k
  · rw [if_pos hk]
    by_cases hn : n < image.length
    · rw [if_pos (by omega), List.getD_eq_getElem?_getD, List.getElem?_take_of_lt hk]
      rfl
    · rw [if_neg (by omega), List.getD_eq_default _ _ (by omega)]
      rfl
  · rw [if_neg (by omega), if_neg hk]
    rfl

/-- Settles O58: construction is the one check and then the reset state with what the device is given. -/
theorem powerOnState : Obligations.PowerOnState := by
  intro gen cart boot image
  have refuses : (gen = .dmg ∧ newerOnly (image.getD 0x0143 0x00) = true) ↔
      (gen = .dmg ∧ image.getD 0x0143 0x00 = 0xC0) := by
    simp only [newerOnly, decide_eq_true_eq]
  refine ⟨fun h => if_pos (refuses.2 h), fun h => ⟨_, if_neg (refuses.not.2 h), rfl, rfl, rfl, rfl,
    resetHasInvariant.fLowZero, rfl, rfl, rfl, rfl, rfl, fun n hn => ?_, fun n hn => ?_, fun n hn => ?_⟩⟩
  · exact (memory_read_load_take boot _ n).trans (if_pos hn)
  · exact (memory_read_load_take image _ n).trans (if_pos hn)
  · exact (memory_read_load_take image _ n).trans (if_neg (by omega))

/-! ### The stack -/

/-- Settles O20: the pair written is the word popped, whose two bytes are read in order. -/
theorem popRuns : Obligations.PopRuns := by
  intro i r s hi
  refine ⟨popStk r s, ⟨exec_of_form hi rfl s, fun hm _ => ?_⟩, ?_, ?_, ?_⟩
  · simp [popStk, (same_writeStk _ r _).params, tCycles, hm]
  · rw [← pop16_sp s]
    cases r <;> rfl
  · exact readStk_writeStk (pop16 s).2 r (pop16 s).1
  · exact ((pop16_same s).trans (same_writeStk _ r _)).trans (same_charge _ 3 0)

/-- A word pushed on writable memory is what the next pop gives, in every state with the memory, the video mode and
the SP that the push left (40_load_store.md R150, R151). -/
theorem pop16_of_push16 {s t : State} {v : Word} (hw : Memory.wf s.mem = true)
    (hlo : ramAt s (s.regs.sp - 2) = true) (hhi : ramAt s (s.regs.sp - 2 + 1) = true)
    (hmem : t.mem = (push16 s v).mem) (hmode : t.collab.videoMode = s.collab.videoMode)
    (hsp : t.regs.sp = s.regs.sp - 2) : (pop16 t).1 = v := by
  obtain ⟨storeLo, readLo⟩ := ramAt_access (s := setSp s (s.regs.sp - 2)) hlo (loByte v)
  obtain ⟨storeHi, readHi⟩ :=
    ramAt_access (s := storeCell (setSp s (s.regs.sp - 2)) (cellOf (s.regs.sp - 2)) (loByte v)) hhi (hiByte v)
  have pushed : t.mem =
      Memory.write (Memory.write s.mem (cellOf (s.regs.sp - 2)) (loByte v)) (cellOf (s.regs.sp - 2 + 1)) (hiByte v) := by
    rw [hmem, push16, writeWord_eq, storeLo, storeHi]
    rfl
  have lo : Memory.read t.mem (cellOf (s.regs.sp - 2)) = loByte v := by
    rw [pushed, memory_read_write_other _ (cellOf_succ_ne _), memory_read_write_same hw]
  have hi : Memory.read t.mem (cellOf (s.regs.sp - 2 + 1)) = hiByte v := by
    rw [pushed, memory_read_write_same (memory_wf_write hw _ _)]
  rw [pop16_eq, hsp, readLo t hmode, readHi t hmode, lo, hi, mkWord_hi_lo]

/-- Settles O21: the pair read after the POP is the word it popped, and that is the word pushed. -/
theorem pushThenPopCopies : Obligations.PushThenPopCopies := by
  intro i j p q s hi hj hw hlo hhi
  have hnext : s.regs.sp - 2 + 1 = s.regs.sp - 1 := by bv_omega
  have hsp : (pushStk p s).regs.sp = s.regs.sp - 2 := push16_sp s (readStk p s)
  have popped : (pop16 (pushStk p s)).1 = readStk p s :=
    pop16_of_push16 hw hlo (hnext ▸ hhi) rfl (keeps_push16 s _).videoMode hsp
  refine ⟨pushStk p s, popStk q (pushStk p s), exec_of_form hi rfl s, exec_of_form hj rfl _, ?_, ?_⟩
  · rw [← popped]
    exact readStk_writeStk _ q _
  · have sp_up : (popStk q (pushStk p s)).regs.sp = (pop16 (pushStk p s)).2.regs.sp := by cases q <;> rfl
    rw [sp_up, pop16_sp, hsp, BitVec.sub_add_cancel]

/-! ### IME and the pending EI -/

/-- The EI delay sets IME, and ends the pending EI, when one was pending before and is now, and the engine is not locked
(45_system.md R305, 60_exceptions.md R351). -/
theorem applyEiDelay_ime (b : Bool) (s : State) :
    (applyEiDelay b s).engine.ime = (s.engine.ime || (b && s.engine.imeScheduled && !s.engine.locked)) ∧
      (applyEiDelay b s).engine.imeScheduled =
        (s.engine.imeScheduled && !(b && s.engine.imeScheduled && !s.engine.locked)) := by
  unfold applyEiDelay
  split
  · rename_i h
    simp [h]
  · rename_i h
    simp [Bool.eq_false_of_not_eq_true h]

/-- The forms that leave IME, the pending EI and the lock alone are all but DI, RETI, EI and the illegal opcodes. -/
theorem formEngine_ime {f : Form} (hdi : f ≠ .di) (hreti : f ≠ .reti) (hei : f ≠ .ei) (hill : ∀ op, f ≠ .illegal op)
    (s : State) :
    (formEngine f s).ime = s.engine.ime ∧ (formEngine f s).imeScheduled = s.engine.imeScheduled ∧
      (formEngine f s).locked = s.engine.locked := by
  cases f with
  | di => exact absurd rfl hdi
  | reti => exact absurd rfl hreti
  | ei => exact absurd rfl hei
  | illegal op => exact absurd rfl (hill op)
  | halt => rcases haltEngine_engine s with e | e | e <;> rw [formEngine, e] <;> exact ⟨rfl, rfl, rfl⟩
  | _ => exact ⟨rfl, rfl, rfl⟩

/-- Settles O51: the engine is that of the form after the fetch, then the EI delay. -/
theorem imeFollowsEiDiReti : Obligations.ImeFollowsEiDiReti := by
  intro s t i rest h hd
  obtain ⟨j, hj, ⟨-, e⟩ | ⟨-, e⟩⟩ := executeOne_cases s
  · cases hd.symm.trans hj
    cases e.symm.trans h
    obtain ⟨ime, scheduled⟩ := applyEiDelay_ime s.engine.imeScheduled (formEffect i.form (fetchInstr s).2)
    rw [formEffect_engine] at ime scheduled
    rw [ime, scheduled]
    refine ⟨fun hf => ?_, fun hf => ?_, fun ⟨op, hf⟩ => ?_, fun hl hf => ?_, fun hl hdi hreti hei hill => ?_⟩
    · simp [hf, formEngine]
    · simp [hf, formEngine]
    · simp [hf, formEngine, raiseLock, fetchInstr_engine]
    · simp [hf, formEngine, fetchInstr_engine, hl]
    · obtain ⟨e1, e2, e3⟩ := formEngine_ime hdi hreti hei hill (fetchInstr s).2
      simp [e1, e2, e3, fetchInstr_engine, hl]
  · cases e.symm.trans h

/-! ### The advances -/

/-- DMA leaves every byte outside the sprite table as it was (60_exceptions.md R362). -/
theorem memory_read_dmaWriteOam {n : Nat} (h : n < 0xFE00 ∨ 0xFE9F < n) (xs : List (Fin 160 × Byte))
    (m : List Host.Cell) : Memory.read (dmaWriteOam xs m) n = Memory.read m n := by
  induction xs generalizing m with
  | nil => rfl
  | cons x xs ih =>
    have hx := x.1.isLt
    exact (ih _).trans (memory_read_write_other m (by omega) x.2)

/-- The timer's loop counts the same whatever IF holds, and adds to IF what it would request of none. -/
theorem timerLoop_ifl (p fuel : Nat) (t : Timer) (m : BitVec 5) :
    timerLoop p fuel (t, m) = ((timerLoop p fuel (t, 0)).1, m ||| (timerLoop p fuel (t, 0)).2) := by
  induction fuel generalizing t m with
  | zero => simp [timerLoop]
  | succ fuel ih =>
    have tick : ∀ m, timerTick p (t, m) = ((timerTick p (t, 0)).1, m ||| (timerTick p (t, 0)).2) := by
      intro m
      unfold timerTick
      split <;> simp
    unfold timerLoop
    split
    · rw [tick m, ih, ih _ (timerTick p (t, 0)).2, BitVec.or_assoc]
    · simp

/-- The timer advance adds requests to IF and clears none (60_exceptions.md R363). -/
theorem timerAdvance_ifl (n : Nat) (s : State) : ∃ k, (timerAdvance n s).irq.ifl = s.irq.ifl ||| k := by
  unfold timerAdvance
  dsimp only
  split
  · exact ⟨_, congrArg Prod.snd (timerLoop_ifl _ _ _ s.irq.ifl)⟩
  · exact ⟨0, BitVec.or_zero.symm⟩

/-- Requests that came before the timer advance change nothing of what it does. -/
theorem timerAdvance_of_requests {s t : State} {m : BitVec 5} (ht : t.timer = s.timer)
    (hi : t.irq.ifl = s.irq.ifl ||| m) (n : Nat) :
    (timerAdvance n t).timer = (timerAdvance n s).timer ∧
      (timerAdvance n t).irq.ifl = (timerAdvance n s).irq.ifl ||| m := by
  unfold timerAdvance
  dsimp only
  rw [ht, hi]
  split
  · rw [timerLoop_ifl _ _ _ (s.irq.ifl ||| m), timerLoop_ifl _ _ _ s.irq.ifl]
    exact ⟨rfl, by ac_rfl⟩
  · exact ⟨rfl, hi⟩

/-- DMA and the video unit leave the timer alone and request sources other than the Timer (10_state.md R35,
60_exceptions.md R362 to R364). -/
theorem collaborators_request (x : StepInput) (s : State) :
    ∃ m : BitVec 5, m.getLsbD 2 = false ∧ (videoAdvance x (dmaAdvance x s)).irq.ifl = s.irq.ifl ||| m ∧
      (videoAdvance x (dmaAdvance x s)).timer = s.timer := by
  obtain ⟨c, -, h⟩ := dmaAdvance_eq x s
  rw [h]
  refine ⟨_, ?_, BitVec.or_assoc _ _ _, rfl⟩
  simp only [BitVec.getLsbD_or, BitVec.getLsbD_and]
  cases x.vblank <;> cases x.stat <;> simp [collaboratorSources]

/-- With quiet collaborators nothing happens before the timer advance (60_exceptions.md R364). -/
theorem collaborators_quiet (s : State) : videoAdvance quietInput (dmaAdvance quietInput s) = s := by
  simp [videoAdvance, dmaAdvance, requestInterrupts, quietInput, readEach, dmaWriteOam]

/-- With quiet collaborators the advances are the timer's alone. -/
theorem advanceAll_quiet (s : State) :
    (advanceAll quietInput s).mem = s.mem ∧ (advanceAll quietInput s).collab.videoMode = s.collab.videoMode ∧
      (advanceAll quietInput s).timer = (timerAdvance s.cost s).timer ∧
      (advanceAll quietInput s).irq = (timerAdvance s.cost s).irq := by
  obtain ⟨-, -, -, hmem, -⟩ := timerAdvance_frame s s.cost
  unfold advanceAll audioAdvance
  rw [collaborators_quiet]
  exact ⟨hmem, (keeps_timerAdvance s s.cost).videoMode, rfl, rfl⟩

/-- Settles O53: the frame of the advances, and that the requests before the timer's only add to IF. -/
theorem advanceFootprint : Obligations.AdvanceFootprint := by
  intro x s
  obtain ⟨hregs, hengine, hlatch, hboot, hparams, hop, hcost, hie, htotal, hmem⟩ := advanceAll_facts s x
  obtain ⟨hinputs, hsent, hrom⟩ := advanceAll_collab s x
  obtain ⟨m, hm, hreq, htimer⟩ := collaborators_request x s
  obtain ⟨k, hk⟩ := timerAdvance_ifl s.cost s
  have hifl : (advanceAll x s).irq.ifl = (timerAdvance s.cost s).irq.ifl ||| m :=
    (timerAdvance_of_requests htimer hreq s.cost).2
  refine ⟨hregs, hengine, hie, hlatch, hboot, hparams, hcost, hop, htotal, hinputs, fun n hn => ?_, ?_, hrom, hsent,
    fun n hn => ?_, ?_⟩
  · rw [hifl, hk]
    simp [hn]
  · rw [hifl, BitVec.getLsbD_or, hm, Bool.or_false]
  · rw [hmem]
    exact memory_read_dmaWriteOam hn _ _
  · rintro rfl
    exact advanceAll_quiet s

end Sys2Proof.Machine

namespace Sys2Proof.Machine

/-! ### Which registers a form writes -/

/-- Which of the registers may be written: general ones, F, SP and PC. -/
structure RegWrites where
  regs : List R8
  f : Bool
  sp : Bool
  pc : Bool

/-- What the tables of Machine/Forms.lean list for a form. -/
def formWrites (f : Form) : RegWrites := ⟨formRegs f, formWritesF f, formWritesSp f, formWritesPc f⟩

/-- Every register that `w` does not list has in `t` the value it has in `s`. -/
structure Leaves (w : RegWrites) (s t : State) : Prop where
  regs : ∀ r, r ∉ w.regs → regOf t r = regOf s r
  f : w.f = false → t.regs.f = s.regs.f
  sp : w.sp = false → t.regs.sp = s.regs.sp
  pc : w.pc = false → t.regs.pc = s.regs.pc

section

variable {w : RegWrites} {s t u : State}

theorem Leaves.trans (h : Leaves w s t) (k : Leaves w t u) : Leaves w s u :=
  ⟨fun r hr => (k.regs r hr).trans (h.regs r hr), fun hf => (k.f hf).trans (h.f hf),
    fun hs => (k.sp hs).trans (h.sp hs), fun hp => (k.pc hp).trans (h.pc hp)⟩

/-- Where the register file is the same, nothing was written to it. -/
theorem Leaves.of_regs (h : t.regs = s.regs) : Leaves w s t :=
  ⟨fun r _ => by cases r <;> simp only [regOf, h], fun _ => by rw [h], fun _ => by rw [h], fun _ => by rw [h]⟩

variable (s)

theorem leaves_charge (n k : Nat) : Leaves w s (charge s n k) := .of_regs rfl
theorem leaves_readByte (a : Addr) : Leaves w s (readByte s a).2 := .of_regs (readByte_regs s a)
theorem leaves_writeByte (a : Addr) (v : Byte) : Leaves w s (writeByte s a v) := .of_regs (writeByte_regs s a v)
theorem leaves_readR8 (o : R8) : Leaves w s (readR8 o s).2 := .of_regs (readR8_regs s o)

theorem leaves_setPc (h : w.pc = true) (v : Addr) : Leaves w s (setPc s v) :=
  ⟨fun r _ => by cases r <;> rfl, fun _ => rfl, fun _ => rfl, fun hw => absurd (h.symm.trans hw) nofun⟩

theorem leaves_setSp (h : w.sp = true) (v : Word) : Leaves w s (setSp s v) :=
  ⟨fun r _ => by cases r <;> rfl, fun _ => rfl, fun hw => absurd (h.symm.trans hw) nofun, fun _ => rfl⟩

theorem leaves_setFlags (h : w.f = true) (z n k c : Bool) : Leaves w s (setFlags s z n k c) :=
  ⟨fun r _ => by cases r <;> rfl, fun hw => absurd (h.symm.trans hw) nofun, fun _ => rfl, fun _ => rfl⟩

theorem leaves_writeR8 {o : R8} (h : o = .atHl ∨ o ∈ w.regs) (v : Byte) : Leaves w s (writeR8 o v s) where
  regs r hr := by
    rw [regOf_writeR8, if_neg]
    rintro ⟨rfl, hne⟩
    exact hr (h.resolve_left hne)
  f _ := writeR8_f s o v
  sp _ := writeR8_sp s o v
  pc _ := writeR8_pc s o v

theorem leaves_setA (h : .a ∈ w.regs) (v : Byte) : Leaves w s (setA s v) := leaves_writeR8 s (o := .a) (.inr h) v

theorem leaves_setHl (hh : .h ∈ w.regs) (hl : .l ∈ w.regs) (v : Word) : Leaves w s (setHl s v) :=
  (leaves_writeR8 s (.inr hh) (hiByte v)).trans (leaves_writeR8 _ (.inr hl) (loByte v))

theorem leaves_setBc (hb : .b ∈ w.regs) (hc : .c ∈ w.regs) (v : Word) : Leaves w s (setBc s v) :=
  (leaves_writeR8 s (.inr hb) (hiByte v)).trans (leaves_writeR8 _ (.inr hc) (loByte v))

theorem leaves_setDe (hd : .d ∈ w.regs) (he : .e ∈ w.regs) (v : Word) : Leaves w s (setDe s v) :=
  (leaves_writeR8 s (.inr hd) (hiByte v)).trans (leaves_writeR8 _ (.inr he) (loByte v))

theorem leaves_setAf (ha : .a ∈ w.regs) (hf : w.f = true) (v : Word) : Leaves w s (setAf s v) :=
  (leaves_setA s ha (hiByte v)).trans
    ⟨fun r _ => by cases r <;> rfl, fun hw => absurd (hf.symm.trans hw) nofun, fun _ => rfl, fun _ => rfl⟩

theorem leaves_push16 (h : w.sp = true) (v : Word) : Leaves w s (push16 s v) :=
  (leaves_setSp s h _).trans (.of_regs (writeWord_regs _ _ v))

theorem leaves_pop16 (h : w.sp = true) : Leaves w s (pop16 s).2 :=
  Leaves.trans (.of_regs (readWord_regs s _)) (leaves_setSp _ h _)

theorem leaves_memAfter {m : R16Mem} (h : m = .bc ∨ m = .de ∨ .h ∈ w.regs ∧ .l ∈ w.regs) :
    Leaves w s (memAfter m s) := by
  rcases h with rfl | rfl | ⟨hh, hl⟩
  · exact .of_regs rfl
  · exact .of_regs rfl
  · cases m with
    | bc | de => exact .of_regs rfl
    | hlInc | hlDec => exact leaves_setHl s hh hl _

theorem leaves_aluWriteBack {op : AluOp} (h : op = .cp ∨ .a ∈ w.regs) (hf : w.f = true) (x : AluResult) :
    Leaves w s (aluWriteBack op x s) := by
  unfold aluWriteBack
  refine Leaves.trans ?_ (leaves_setFlags _ hf _ _ _ _)
  split
  · exact .of_regs rfl
  · rename_i hne
    exact leaves_setA s (h.resolve_left hne) _

theorem leaves_writeR16 (r : R16) (v : Word) : Leaves (formWrites (.inc16 r)) s (writeR16 r v s) := by
  cases r with
  | bc => exact leaves_setBc s (by decide) (by decide) v
  | de => exact leaves_setDe s (by decide) (by decide) v
  | hl => exact leaves_setHl s (by decide) (by decide) v
  | sp => exact leaves_setSp s rfl v

theorem leaves_writeStk (r : R16Stk) (v : Word) : Leaves (formWrites (.pop r)) s (writeStk r v s) := by
  cases r with
  | bc => exact leaves_setBc s (by decide) (by decide) v
  | de => exact leaves_setDe s (by decide) (by decide) v
  | hl => exact leaves_setHl s (by decide) (by decide) v
  | af => exact leaves_setAf s (by decide) rfl v

/-- An instruction of a form writes no register but those its tables list (10_state.md R25, R27); the bare escape is no
whole instruction. -/
theorem leaves_formEffect {f : Form} (hp : ∀ cb, f ≠ .prefixCb cb) : Leaves (formWrites f) s (formEffect f s) := by
  cases f with
  | ld dst src =>
    have hd : dst = .atHl ∨ dst ∈ formRegs (.ld dst src) := by cases dst <;> simp [formRegs]
    exact ((leaves_readR8 s _).trans (leaves_writeR8 _ hd _)).trans (leaves_charge _ _ _)
  | ldImm dst v =>
    have hd : dst = .atHl ∨ dst ∈ formRegs (.ldImm dst v) := by cases dst <;> simp [formRegs]
    exact (leaves_writeR8 s hd _).trans (leaves_charge _ _ _)
  | ldA m =>
    have ha : .a ∈ formRegs (.ldA m) := by cases m <;> decide
    have hm : m = .bc ∨ m = .de ∨ .h ∈ formRegs (.ldA m) ∧ .l ∈ formRegs (.ldA m) := by cases m <;> decide
    exact (((leaves_readByte s _).trans (leaves_setA _ ha _)).trans (leaves_memAfter _ hm)).trans (leaves_charge _ _ _)
  | stA m =>
    have hm : m = .bc ∨ m = .de ∨ .h ∈ formRegs (.stA m) ∧ .l ∈ formRegs (.stA m) := by cases m <;> decide
    exact ((leaves_writeByte s _ _).trans (leaves_memAfter _ hm)).trans (leaves_charge _ _ _)
  | ldAbs | ldh | ldC =>
    exact ((leaves_readByte s _).trans (leaves_setA _ (List.mem_singleton_self _) _)).trans (leaves_charge _ _ _)
  | stAbs | sth | stC => exact (leaves_writeByte s _ _).trans (leaves_charge _ _ _)
  | ld16 r v =>
    have hw : formWrites (.ld16 r v) = formWrites (.inc16 r) := by cases r <;> rfl
    rw [hw]
    exact (leaves_writeR16 s r v).trans (leaves_charge _ _ _)
  | dec16 r =>
    have hw : formWrites (.dec16 r) = formWrites (.inc16 r) := by cases r <;> rfl
    rw [hw]
    exact (leaves_writeR16 s r _).trans (leaves_charge _ _ _)
  | inc16 r => exact (leaves_writeR16 s r _).trans (leaves_charge _ _ _)
  | stSp a => exact .of_regs (writeWord_regs s _ _)
  | ldSpHl => exact (leaves_setSp s rfl _).trans (leaves_charge _ _ _)
  | pop r =>
    have hsp : formWritesSp (.pop r) = true := by cases r <;> rfl
    exact ((leaves_pop16 s hsp).trans (leaves_writeStk _ r _)).trans (leaves_charge _ _ _)
  | push r => exact (leaves_push16 s rfl _).trans (leaves_charge _ _ _)
  | alu op src =>
    have ha : op = .cp ∨ .a ∈ formRegs (.alu op src) := by cases op <;> simp [formRegs]
    exact ((leaves_readR8 s _).trans (leaves_aluWriteBack _ ha rfl _)).trans (leaves_charge _ _ _)
  | aluImm op v =>
    have ha : op = .cp ∨ .a ∈ formRegs (.aluImm op v) := by cases op <;> simp [formRegs]
    exact (leaves_aluWriteBack s ha rfl _).trans (leaves_charge _ _ _)
  | inc8 dst | dec8 dst =>
    exact (((leaves_readR8 s _).trans (leaves_writeR8 _ (by cases dst <;> decide) _)).trans
      (leaves_setFlags _ rfl _ _ _ _)).trans (leaves_charge _ _ _)
  | daa | cpl | rotA =>
    exact ((leaves_setA s (List.mem_singleton_self _) _).trans (leaves_setFlags _ rfl _ _ _ _)).trans
      (leaves_charge _ _ _)
  | scf | ccf => exact (leaves_setFlags s rfl _ _ _ _).trans (leaves_charge _ _ _)
  | addHl | ldHlSp =>
    exact ((leaves_setHl s (.head _) (.tail _ (.head _)) _).trans (leaves_setFlags _ rfl _ _ _ _)).trans
      (leaves_charge _ _ _)
  | addSp e => exact ((leaves_setSp s rfl _).trans (leaves_setFlags _ rfl _ _ _ _)).trans (leaves_charge _ _ _)
  | rot k o =>
    have hd : o = .atHl ∨ o ∈ formRegs (.rot k o) := by cases o <;> simp [formRegs]
    exact (((leaves_readR8 s _).trans (leaves_writeR8 _ hd _)).trans (leaves_setFlags _ rfl _ _ _ _)).trans
      (leaves_charge _ _ _)
  | bit b o => exact ((leaves_readR8 s _).trans (leaves_setFlags _ rfl _ _ _ _)).trans (leaves_charge _ _ _)
  | res b o | set b o =>
    exact ((leaves_readR8 s _).trans
      (leaves_writeR8 _ (by cases o <;> simp [formWrites, formRegs]) _)).trans (leaves_charge _ _ _)
  | jp | jpHl | jr => exact (leaves_setPc s rfl _).trans (leaves_charge _ _ _)
  | jpCc cc a =>
    show Leaves _ s (jumpAbsCc cc a s)
    unfold jumpAbsCc
    split
    · exact (leaves_setPc s rfl _).trans (leaves_charge _ _ _)
    · exact leaves_charge s _ _
  | jrCc cc e =>
    show Leaves _ s (jumpRelCc cc e s)
    unfold jumpRelCc
    split
    · exact (leaves_setPc s rfl _).trans (leaves_charge _ _ _)
    · exact leaves_charge s _ _
  | call | rst => exact ((leaves_push16 s rfl _).trans (leaves_setPc _ rfl _)).trans (leaves_charge _ _ _)
  | callCc cc a =>
    show Leaves _ s (callAbsCc cc a s)
    unfold callAbsCc
    split
    · exact ((leaves_push16 s rfl _).trans (leaves_setPc _ rfl _)).trans (leaves_charge _ _ _)
    · exact leaves_charge s _ _
  | ret | reti => exact ((leaves_pop16 s rfl).trans (leaves_setPc _ rfl _)).trans (.of_regs rfl)
  | retCc cc =>
    show Leaves _ s (returnCc cc s)
    unfold returnCc
    split
    · exact ((leaves_pop16 s rfl).trans (leaves_setPc _ rfl _)).trans (leaves_charge _ _ _)
    · exact leaves_charge s _ _
  | halt =>
    show Leaves _ s (haltEngine s)
    unfold haltEngine
    repeat' split
    all_goals exact .of_regs rfl
  | nop | stop | di | ei | illegal => exact .of_regs rfl
  | prefixCb cb => exact absurd rfl (hp cb)

end

/-- A form outside the table of engine writers leaves the engine alone (10_state.md R27). -/
theorem formEngine_eq {f : Form} (h : formWritesEngine f = false) (s : State) : formEngine f s = s.engine := by
  cases f with
  | reti | halt | di | ei | illegal => exact absurd h Bool.noConfusion
  | _ => rfl

/-! ### What an instruction costs -/

/-- The bytes of an instruction of a form (30_encoding.md R101). -/
def formLength : Form → Nat
  | .ldImm _ _ | .ldh _ | .sth _ | .aluImm _ _ | .addSp _ | .ldHlSp _ | .jr _ | .jrCc _ _ | .stop _ => 2
  | .rot _ _ | .bit _ _ | .res _ _ | .set _ _ | .prefixCb _ => 2
  | .ldAbs _ | .stAbs _ | .ld16 _ _ | .stSp _ | .jp _ | .jpCc _ _ | .call _ | .callCc _ _ => 3
  | _ => 1

/-- An instruction is as long as its form says. -/
theorem encode_length (i : Instr) : (encode i).length = formLength i.form := by
  cases i <;> rfl

/-- The accesses of an operand form: those of the form with a register, and more for the byte at `(HL)`. -/
theorem r8Accesses_add (o : R8) (n k : Nat) : r8Accesses o n (n + k) = n + if o = .atHl then k else 0 := by
  unfold r8Accesses
  split <;> rfl

/-- Every whole instruction costs what its tables count: the bytes fetched, the data bytes and the internal M-cycles
(70_reset_and_hazards.md R397). -/
theorem formEffect_tCycles {f : Form} (hs : isStop f = false) (hp : ∀ cb, f ≠ .prefixCb cb) (s : State) :
    (formEffect f s).cost = tCycles s.params (formLength f + formData s f) (formInternal s f) := by
  have charged : ∀ {u : State} {n m k : Nat}, n = m → (charge u n k).cost = tCycles (charge u n k).params m k := by
    rintro _ _ _ _ rfl
    rfl
  rw [← (keeps_formEffect s f).params]
  cases f with
  | stop v => exact absurd hs Bool.noConfusion
  | prefixCb cb => exact absurd rfl (hp cb)
  | ld dst src =>
    have accesses : (if dst = .atHl ∨ src = .atHl then 2 else 1) = 1 + if dst = .atHl ∨ src = .atHl then 1 else 0 := by
      split <;> rfl
    exact charged accesses
  | ldImm dst v => exact charged (r8Accesses_add dst 2 1)
  | alu op o => exact charged (r8Accesses_add o 1 1)
  | inc8 o | dec8 o => exact charged (r8Accesses_add o 1 2)
  | rot k o => exact charged (r8Accesses_add o 2 2)
  | bit b o => exact charged (r8Accesses_add o 2 1)
  | res b o | set b o => exact charged (r8Accesses_add o 2 2)
  | jpCc cc a =>
    by_cases hc : condHolds cc s = true <;> simp [formEffect, jumpAbsCc, formLength, formData, formInternal, hc]
  | jrCc cc e =>
    by_cases hc : condHolds cc s = true <;> simp [formEffect, jumpRelCc, formLength, formData, formInternal, hc]
  | callCc cc a =>
    by_cases hc : condHolds cc s = true <;> simp [formEffect, callAbsCc, formLength, formData, formInternal, hc]
  | retCc cc =>
    by_cases hc : condHolds cc s = true <;> simp [formEffect, returnCc, formLength, formData, formInternal, hc]
  | halt =>
    show (haltEngine s).cost = tCycles (haltEngine s).params 1 0
    unfold haltEngine
    repeat' split
    all_goals rfl
  | _ => exact charged rfl

/-- The bare escape is no whole instruction (30_encoding.md R101). -/
theorem form_ne_prefixCb {i : Instr} (h : i.wellFormed = true) (cb : Byte) : i.form ≠ .prefixCb cb := by
  cases i with
  | prefixCb b => exact absurd h Bool.noConfusion
  | _ => exact nofun

/-- Settles O44: the registers, the engine and the cost by the tables of the instruction's form. -/
theorem registerFrame : Obligations.RegisterFrame := by
  intro i s t hw h
  obtain ⟨hs, e⟩ | ⟨-, e⟩ := exec_cases i s <;> cases e.symm.trans h
  obtain ⟨regs, f, sp, pc⟩ := leaves_formEffect s (form_ne_prefixCb hw)
  refine ⟨regs, f, sp, pc, fun he => ?_, ?_⟩
  · rw [formEffect_engine, formEngine_eq he]
  · rw [formEffect_tCycles hs (form_ne_prefixCb hw), encode_length]
    rfl

end Sys2Proof.Machine

namespace Sys2Proof.Machine

/-! ### Regions by their addresses -/

/-- Video RAM is contended in mode 3 (20_memory.md R80). -/
theorem vramContended_iff (m : VideoMode) : vramContended m = true ↔ m = .mode3 := by
  cases m <;> decide

/-- The sprite table is contended in modes 2 and 3 (20_memory.md R80). -/
theorem oamContended_iff (m : VideoMode) : oamContended m = true ↔ m = .mode2 ∨ m = .mode3 := by
  cases m <;> decide

/-- The addresses at which only the cartridge can answer: past the overlay window, or with the overlay off, and the
cartridge's RAM window (20_memory.md R67, R74, R75). -/
def CartReads (s : State) (a : Addr) : Prop :=
  (a.toNat ≤ 0x7FFF ∧ (0x0100 ≤ a.toNat ∨ s.bootDisabled = true)) ∨ (0xA000 ≤ a.toNat ∧ a.toNat ≤ 0xBFFF)

theorem readByte_cart {s : State} {a : Addr} (h : CartReads s a) : readByte s a = cartRead s a := by
  rcases h with ⟨hi, h⟩ | ⟨lo, hi⟩
  · by_cases hb : a.toNat ≤ 0x00FF
    · have hr : regionOf a = .bootWindow := regionOf_eq (Nat.zero_le _) hb
      have off : s.bootDisabled = true := h.resolve_left (by omega)
      simp [readByte, hr, off]
    · have hr : regionOf a = .cartRom := regionOf_eq (Nat.lt_of_not_le hb) hi
      simp [readByte, hr]
  · have hr : regionOf a = .cartRam := regionOf_eq lo hi
    simp [readByte, hr]

/-- A store to an address of the cartridge goes to the cartridge, with the overlay on too (20_memory.md R74, R75). -/
theorem writeByte_cart {a : Addr} (h : a.toNat ≤ 0x7FFF ∨ (0xA000 ≤ a.toNat ∧ a.toNat ≤ 0xBFFF)) (s : State)
    (v : Byte) : writeByte s a v = cartWrite s a v := by
  rcases h with hi | ⟨lo, hi⟩
  · by_cases hb : a.toNat ≤ 0x00FF
    · have hr : regionOf a = .bootWindow := regionOf_eq (Nat.zero_le _) hb
      simp [writeByte, hr]
    · have hr : regionOf a = .cartRom := regionOf_eq (Nat.lt_of_not_le hb) hi
      simp [writeByte, hr]
  · have hr : regionOf a = .cartRam := regionOf_eq lo hi
    simp [writeByte, hr]

theorem readByte_io {a : Addr} (h : regionOf a = .io) (s : State) : readByte s a = ioRead s a := by
  simp [readByte, h]

theorem writeByte_io {a : Addr} (h : regionOf a = .io) (s : State) (v : Byte) : writeByte s a v = ioWrite s a v := by
  simp [writeByte, h]

/-- An I/O register of the core has one address (20_memory.md R77). -/
theorem ioRegOf_addr {a : Addr} {r : IoReg} (h : ioRegOf a = r) (hr : r ≠ .ext) : a = BitVec.ofNat 16 (ioRegAddr r) :=
  BitVec.eq_of_toNat_eq ((ioRegOf_inv h hr).trans (by cases r <;> rfl))

/-- Settles O9: every clause names one region by its ends. -/
theorem routerRegionMap : Obligations.RouterRegionMap := by
  intro s a v
  refine ⟨fun hi => ⟨?_, writeByte_cart (.inl (by omega)) s v⟩,
    fun lo hi => ⟨readByte_cart (.inl ⟨hi, .inl lo⟩), writeByte_cart (.inl hi) s v⟩, fun lo hi => ?_,
    fun lo hi => ⟨readByte_cart (.inr ⟨lo, hi⟩), writeByte_cart (.inr ⟨lo, hi⟩) s v⟩, fun lo hi => ?_,
    fun lo hi => ?_, fun lo hi => ?_, fun lo hi => ?_, fun lo hi => ?_, fun lo hi => ?_, fun he => ?_⟩
  · have hr : regionOf a = .bootWindow := regionOf_eq (Nat.zero_le _) hi
    simp [readByte, hr]
  · have hr : regionOf a = .vram := regionOf_eq lo hi
    simp [peek, readByte, writeByte, hr, vramContended_iff, contendedFill, cellOf, storeCell]
  · have hr : regionOf a = .wram := regionOf_eq lo hi
    simp [peek, readByte, writeByte, hr, cellOf, storeCell]
  · have hr : regionOf a = .echo := regionOf_eq lo hi
    simp [peek, readByte, writeByte, hr, cellOf, storeCell]
  · have hr : regionOf a = .oam := regionOf_eq lo hi
    simp [peek, readByte, writeByte, hr, oamContended_iff, contendedFill, cellOf, storeCell]
  · have hr : regionOf a = .unusable := regionOf_eq lo hi
    simp [peek, readByte, writeByte, hr]
  · have hr : regionOf a = .io := regionOf_eq lo hi
    exact ⟨congrArg Prod.fst (readByte_io hr s), writeByte_io hr s v⟩
  · have hr : regionOf a = .hram := regionOf_eq lo hi
    simp [peek, readByte, writeByte, hr, cellOf, storeCell]
  · have hr : regionOf a = .ieReg := regionOf_eq he.ge he.le
    simp [peek, readByte, writeByte, hr]

/-- Settles O11: the echo and the byte 0x2000 below it have one key. -/
theorem echoNamesWram : Obligations.EchoNamesWram := by
  intro s a v lo hi
  have below : (a - 0x2000).toNat = a.toNat - 0x2000 := by bv_omega
  generalize a - 0x2000 = b at below
  have echo : regionOf a = .echo := regionOf_eq lo hi
  have wram : regionOf b = .wram := regionOf_eq (by simp only [regionEnds]; omega) (by simp only [regionEnds]; omega)
  have key : cellOf a = cellOf b := by simp [cellOf, echo, wram, below]
  simp [readByte, writeByte, echo, wram, key]

/-! ### What a store leaves alone -/

/-- Where no collaborator with a state of its own answers, none comes to answer while the latch over the overlay window
and the default cartridge stay (20_memory.md R68, R74). -/
theorem answeredOutside_stays {s t : State} {a : Addr} (h : answeredOutside s a = false)
    (hdis : a.toNat ≤ 0xFF → t.bootDisabled = s.bootDisabled)
    (hcart : s.collab.cart = .romOnly → t.collab.cart = .romOnly) : answeredOutside t a = false := by
  unfold answeredOutside at h ⊢
  cases hr : regionOf a <;> simp only [hr] at h ⊢
  case bootWindow =>
    have ha : a.toNat ≤ 0xFF := (regionOf_inv hr).2
    rw [hdis ha]
    by_cases hb : s.bootDisabled = true
    · simpa [hb] using hcart (by simpa [hb] using h)
    · simp [hb]
  case cartRom => simpa using hcart (by simpa using h)
  case cartRam => simpa using hcart (by simpa using h)
  case io => exact h

section

variable (s : State) {a : Addr} (v : Byte)

/-- The timer's registers change only by a store to one of their addresses (20_memory.md R77). -/
theorem writeByte_timer (h : a ≠ 0xFF04 ∧ a ≠ 0xFF05 ∧ a ≠ 0xFF06 ∧ a ≠ 0xFF07) :
    (writeByte s a v).timer = s.timer := by
  obtain ⟨hdiv, htima, htma, htac⟩ := h
  by_cases hr : regionOf a = .io
  · rw [writeByte_io hr]
    unfold ioWrite
    cases hi : ioRegOf a with
    | div => exact absurd (ioRegOf_addr hi nofun) hdiv
    | tima => exact absurd (ioRegOf_addr hi nofun) htima
    | tma => exact absurd (ioRegOf_addr hi nofun) htma
    | tac => exact absurd (ioRegOf_addr hi nofun) htac
    | ifl | boot | ext => rfl
  · exact (writeByte_not_io s a v hr).1

/-- IF and IE change only by a store to their addresses (20_memory.md R67, R77). -/
theorem writeByte_irq (h : a ≠ 0xFF0F ∧ a ≠ 0xFFFF) : (writeByte s a v).irq = s.irq := by
  obtain ⟨hif, hie⟩ := h
  have notIe : regionOf a ≠ .ieReg := fun hr =>
    hie (BitVec.eq_of_toNat_eq (Nat.le_antisymm (regionOf_inv hr).2 (regionOf_inv hr).1))
  have ifl : (writeByte s a v).irq.ifl = s.irq.ifl := by
    by_cases hr : regionOf a = .io
    · rw [writeByte_io hr]
      unfold ioWrite
      cases hi : ioRegOf a with
      | ifl => exact absurd (ioRegOf_addr hi nofun) hif
      | div | tima | tma | tac | boot | ext => rfl
    · exact (writeByte_not_io s a v hr).2.1
  calc (writeByte s a v).irq = ⟨(writeByte s a v).irq.ie, (writeByte s a v).irq.ifl⟩ := rfl
    _ = s.irq := by rw [writeByte_not_ie s a v notIe, ifl]

/-- The boot latch changes only by a store to its address (20_memory.md R74, R77). -/
theorem writeByte_latch (h : a ≠ 0xFF50) : (writeByte s a v).bootDisabled = s.bootDisabled := by
  by_cases hr : regionOf a = .io
  · rw [writeByte_io hr]
    unfold ioWrite
    cases hi : ioRegOf a with
    | boot => exact absurd (ioRegOf_addr hi nofun) h
    | div | tima | tma | tac | ifl | ext => rfl
  · exact (writeByte_not_io s a v hr).2.2

/-- A store to one I/O register leaves what every other register of the core reads as (20_memory.md R77). -/
theorem ioRead_ioWrite_other {b : Addr} (hb : ioRegOf b ≠ .ext) (hne : ioRegOf a ≠ ioRegOf b) :
    (ioRead (ioWrite s a v) b).1 = (ioRead s b).1 := by
  unfold ioRead ioWrite
  cases eb : ioRegOf b with
  | ext => exact absurd eb hb
  | _ => cases ea : ioRegOf a <;> first | rfl | exact absurd (ea.trans eb.symm) hne

/-- A byte that a store does not reach reads as before, where no collaborator with a state of its own answers, and none
comes to answer there (20_memory.md R73, R75, R77). -/
theorem peek_writeByte_other {b : Addr} (ho : answeredOutside s b = false) (hr : reaches a b = false) :
    answeredOutside (writeByte s a v) b = false ∧ peek (writeByte s a v) b = peek s b := by
  obtain ⟨key, window⟩ : cellOf a ≠ cellOf b ∧ (a = 0xFF50 → 0xFF < b.toNat) := by simpa [reaches] using hr
  have apart : a ≠ b := fun e => key (congrArg cellOf e)
  have latch : b.toNat ≤ 0xFF → (writeByte s a v).bootDisabled = s.bootDisabled := fun hb =>
    writeByte_latch s v fun e => Nat.not_lt_of_le hb (window e)
  refine ⟨answeredOutside_stays ho latch (writeByte_romOnly s a v), ?_⟩
  by_cases both : regionOf a = .io ∧ regionOf b = .io
  · obtain ⟨ha, hb⟩ := both
    have core : ioRegOf b ≠ .ext := by simpa [answeredOutside, hb] using ho
    have owner : ioRegOf a ≠ ioRegOf b := fun e => apart ((ioRegOf_addr e core).trans (ioRegOf_addr rfl core).symm)
    rw [peek, peek, readByte_io hb, readByte_io hb, writeByte_io ha]
    exact ioRead_ioWrite_other s v core owner
  · refine peek_congr ho ?_ (writeByte_bootRom s a v) latch (writeByte_videoMode s a v) (writeByte_romOnly s a v)
      (fun hb => ?_) (fun hb => writeByte_not_ie s a v fun ha => ?_)
    · rcases writeByte_mem s a v with e | ⟨e, -⟩ <;> rw [e]
      exact memory_read_write_other _ key v
    · obtain ⟨timer, ifl, -⟩ := writeByte_not_io s a v fun ha => both ⟨ha, hb⟩
      exact ⟨timer, ifl⟩
    · have ea := regionOf_inv ha
      have eb := regionOf_inv hb
      simp only [regionEnds] at ea eb
      exact apart (BitVec.eq_of_toNat_eq (by omega))

end

/-- Settles O12: a writable byte is one cell, any other byte is not reached, and a store to the cartridge is its own. -/
theorem storeThenLoad : Obligations.StoreThenLoad := by
  intro s a v wf
  refine ⟨fun hram => ?_, fun b ho hr => (peek_writeByte_other s v ho hr).2, fun ha => ⟨fun hc => ?_, fun n hc => ?_⟩⟩
  · obtain ⟨store, load⟩ := ramAt_access hram v
    rw [peek, load _ (writeByte_videoMode s a v), store]
    exact memory_read_write_same wf _ v
  · simp [writeByte_cart ha, cartWrite, hc, Cart.afterWrite]
  · simp [writeByte_cart ha, cartWrite, hc, Cart.afterWrite]

/-! ### The bytes an instruction stores to -/

/-- What `t` has of `s` when every store between them went to an address of `xs`. -/
structure StoresOnly (xs : List Addr) (s t : State) : Prop where
  bytes : ∀ a, answeredOutside s a = false → (∀ x ∈ xs, reaches x a = false) →
    answeredOutside t a = false ∧ peek t a = peek s a
  timer : (∀ x ∈ xs, x ≠ 0xFF04 ∧ x ≠ 0xFF05 ∧ x ≠ 0xFF06 ∧ x ≠ 0xFF07) → t.timer = s.timer
  irq : (∀ x ∈ xs, x ≠ 0xFF0F ∧ x ≠ 0xFFFF) → t.irq = s.irq
  latch : (∀ x ∈ xs, x ≠ 0xFF50) → t.bootDisabled = s.bootDisabled
  nothing : xs = [] → t.mem = s.mem ∧ t.collab.sent = s.collab.sent

section

variable {xs : List Addr} {s t u : State}

theorem StoresOnly.trans (h : StoresOnly xs s t) (k : StoresOnly xs t u) : StoresOnly xs s u where
  bytes a ho hx := by
    obtain ⟨ht, e⟩ := h.bytes a ho hx
    obtain ⟨hu, e'⟩ := k.bytes a ht hx
    exact ⟨hu, e'.trans e⟩
  timer hx := (k.timer hx).trans (h.timer hx)
  irq hx := (k.irq hx).trans (h.irq hx)
  latch hx := (k.latch hx).trans (h.latch hx)
  nothing hx := by
    obtain ⟨hm, hs⟩ := h.nothing hx
    obtain ⟨km, ks⟩ := k.nothing hx
    exact ⟨km.trans hm, ks.trans hs⟩

/-- A change of registers, engine, cost and what a read spends of the collaborators stores nothing. -/
theorem StoresOnly.of_kept (c : Collab) (hc : CollabKept s.collab c)
    (h : t = { s with regs := t.regs, engine := t.engine, collab := c, cost := t.cost }) : StoresOnly xs s t := by
  generalize t.regs = r at h
  generalize t.engine = e at h
  generalize t.cost = k at h
  subst h
  exact ⟨fun a ho _ => ⟨answeredOutside_stays ho (fun _ => rfl) hc.romOnly,
      peek_congr ho rfl rfl (fun _ => rfl) hc.videoMode hc.romOnly (fun _ => ⟨rfl, rfl⟩) fun _ => rfl⟩,
    fun _ => rfl, fun _ => rfl, fun _ => rfl, fun _ => ⟨rfl, hc.sent⟩⟩

/-- A change of registers, engine and cost stores nothing. -/
theorem StoresOnly.of_cpu (h : t = { s with regs := t.regs, engine := t.engine, cost := t.cost }) :
    StoresOnly xs s t :=
  .of_kept s.collab (collabKept_refl _) h

variable (s)

theorem storesOnly_charge (n k : Nat) : StoresOnly xs s (charge s n k) := .of_cpu rfl
theorem storesOnly_setPc (v : Addr) : StoresOnly xs s (setPc s v) := .of_cpu rfl
theorem storesOnly_setSp (v : Word) : StoresOnly xs s (setSp s v) := .of_cpu rfl
theorem storesOnly_setA (v : Byte) : StoresOnly xs s (setA s v) := .of_cpu rfl
theorem storesOnly_setFlags (z n h c : Bool) : StoresOnly xs s (setFlags s z n h c) := .of_cpu rfl

theorem storesOnly_memAfter (m : R16Mem) : StoresOnly xs s (memAfter m s) := by
  cases m <;> exact .of_cpu rfl

theorem storesOnly_writeR16 (r : R16) (v : Word) : StoresOnly xs s (writeR16 r v s) := by
  cases r <;> exact .of_cpu rfl

theorem storesOnly_writeStk (r : R16Stk) (v : Word) : StoresOnly xs s (writeStk r v s) := by
  cases r <;> exact .of_cpu rfl

theorem storesOnly_aluWriteBack (op : AluOp) (x : AluResult) : StoresOnly xs s (aluWriteBack op x s) := by
  unfold aluWriteBack
  split <;> exact .of_cpu rfl

theorem storesOnly_readByte (a : Addr) : StoresOnly xs s (readByte s a).2 := by
  obtain ⟨c, hc, h⟩ := readByte_state s a
  rw [h]
  exact .of_kept c hc rfl

theorem storesOnly_readR8 (o : R8) : StoresOnly xs s (readR8 o s).2 := by
  obtain ⟨c, hc, h⟩ := readR8_state s o
  rw [h]
  exact .of_kept c hc rfl

/-- A pop reads two bytes and stores none (40_load_store.md R151). -/
theorem storesOnly_pop16 : StoresOnly xs s (pop16 s).2 :=
  ((storesOnly_readByte s _).trans (storesOnly_readByte _ _)).trans (storesOnly_setSp _ _)

theorem storesOnly_writeByte {a : Addr} (h : a ∈ xs) (v : Byte) : StoresOnly xs s (writeByte s a v) where
  bytes _ ho hx := peek_writeByte_other s v ho (hx a h)
  timer hx := writeByte_timer s v (hx a h)
  irq hx := writeByte_irq s v (hx a h)
  latch hx := writeByte_latch s v (hx a h)
  nothing hx := absurd (hx ▸ h) List.not_mem_nil

/-- A word is stored to an address and the one after it (20_memory.md R72). -/
theorem storesOnly_writeWord {a : Addr} (h : [a, a + 1] ⊆ xs) (v : Word) : StoresOnly xs s (writeWord s a v) :=
  (storesOnly_writeByte s (h (.head _)) _).trans (storesOnly_writeByte _ (h (.tail _ (.head _))) _)

/-- A push stores to its two addresses (40_load_store.md R150). -/
theorem storesOnly_push16 (h : pushTargets s ⊆ xs) (v : Word) : StoresOnly xs s (push16 s v) :=
  (storesOnly_setSp s _).trans (storesOnly_writeWord _ h v)

/-- An operand is stored to memory only as `(HL)` (30_encoding.md R103). -/
theorem storesOnly_writeR8 {o : R8} (h : o = .atHl → getHl s ∈ xs) (v : Byte) : StoresOnly xs s (writeR8 o v s) := by
  cases o with
  | atHl => exact storesOnly_writeByte s (h rfl) v
  | _ => exact .of_cpu rfl

/-- One operand read and then one written: the address of `(HL)` is that before the read. -/
theorem storesOnly_readR8_writeR8 {o p : R8} (h : o = .atHl → getHl s ∈ xs) (v : Byte) :
    StoresOnly xs s (writeR8 o v (readR8 p s).2) := by
  have hl : getHl (readR8 p s).2 = getHl s := by rw [getHl, readR8_regs, getHl]
  exact (storesOnly_readR8 s p).trans (storesOnly_writeR8 _ (hl.symm ▸ h) v)

/-- An instruction of a form stores only to the addresses its rule computes from the state before it (40 to 45); the
bare escape is no whole instruction. -/
theorem storesOnly_formEffect {f : Form} (hp : ∀ cb, f ≠ .prefixCb cb) :
    StoresOnly (storeTargets s f) s (formEffect f s) := by
  cases f with
  | ld dst src => exact (storesOnly_readR8_writeR8 s (by rintro rfl; exact .head _) _).trans (storesOnly_charge _ _ _)
  | ldImm dst v => exact (storesOnly_writeR8 s (by rintro rfl; exact .head _) v).trans (storesOnly_charge _ _ _)
  | inc8 o | dec8 o | rot k o =>
    exact ((storesOnly_readR8_writeR8 s (by rintro rfl; exact .head _) _).trans
      (storesOnly_setFlags _ _ _ _ _)).trans (storesOnly_charge _ _ _)
  | res b o | set b o =>
    exact (storesOnly_readR8_writeR8 s (by rintro rfl; exact .head _) _).trans (storesOnly_charge _ _ _)
  | ldA m =>
    exact (((storesOnly_readByte s _).trans (storesOnly_setA _ _)).trans (storesOnly_memAfter _ m)).trans
      (storesOnly_charge _ _ _)
  | stA m =>
    exact ((storesOnly_writeByte s (.head _) _).trans (storesOnly_memAfter _ m)).trans (storesOnly_charge _ _ _)
  | ldAbs | ldh | ldC =>
    exact ((storesOnly_readByte s _).trans (storesOnly_setA _ _)).trans (storesOnly_charge _ _ _)
  | stAbs | sth | stC => exact (storesOnly_writeByte s (.head _) _).trans (storesOnly_charge _ _ _)
  | stSp a => exact (storesOnly_writeWord s (List.Subset.refl _) _).trans (storesOnly_charge _ _ _)
  | push r => exact (storesOnly_push16 s (List.Subset.refl _) _).trans (storesOnly_charge _ _ _)
  | call | rst =>
    exact ((storesOnly_push16 s (List.Subset.refl _) _).trans (storesOnly_setPc _ _)).trans (storesOnly_charge _ _ _)
  | callCc cc a =>
    show StoresOnly (if condHolds cc s then pushTargets s else []) s (callAbsCc cc a s)
    unfold callAbsCc
    split
    · exact ((storesOnly_push16 s (List.Subset.refl _) _).trans (storesOnly_setPc _ _)).trans (storesOnly_charge _ _ _)
    · exact storesOnly_charge s _ _
  | pop r => exact ((storesOnly_pop16 s).trans (storesOnly_writeStk _ r _)).trans (storesOnly_charge _ _ _)
  | ret => exact ((storesOnly_pop16 s).trans (storesOnly_setPc _ _)).trans (storesOnly_charge _ _ _)
  | retCc cc =>
    show StoresOnly [] s (returnCc cc s)
    unfold returnCc
    split
    · exact ((storesOnly_pop16 s).trans (storesOnly_setPc _ _)).trans (storesOnly_charge _ _ _)
    · exact storesOnly_charge s _ _
  | reti =>
    exact (((storesOnly_pop16 s).trans (storesOnly_setPc _ _)).trans (.of_cpu rfl)).trans (storesOnly_charge _ _ _)
  | alu op src =>
    exact ((storesOnly_readR8 s src).trans (storesOnly_aluWriteBack _ op _)).trans (storesOnly_charge _ _ _)
  | aluImm op v => exact (storesOnly_aluWriteBack s op _).trans (storesOnly_charge _ _ _)
  | bit b o => exact ((storesOnly_readR8 s o).trans (storesOnly_setFlags _ _ _ _ _)).trans (storesOnly_charge _ _ _)
  | ld16 r | inc16 r | dec16 r => exact (storesOnly_writeR16 s r _).trans (storesOnly_charge _ _ _)
  | jpCc cc a =>
    show StoresOnly [] s (jumpAbsCc cc a s)
    unfold jumpAbsCc
    split <;> exact .of_cpu rfl
  | jrCc cc e =>
    show StoresOnly [] s (jumpRelCc cc e s)
    unfold jumpRelCc
    split <;> exact .of_cpu rfl
  | halt =>
    show StoresOnly [] s (haltEngine s)
    unfold haltEngine
    repeat' split
    all_goals exact .of_cpu rfl
  | prefixCb cb => exact absurd rfl (hp cb)
  | ldSpHl | daa | cpl | scf | ccf | addHl | addSp | ldHlSp | rotA | jp | jpHl | jr | nop | stop | di | ei | illegal =>
    exact .of_cpu rfl

end

/-- Settles O45: the stores of the instruction's form, and what every instruction keeps. -/
theorem memoryFrame : Obligations.MemoryFrame := by
  intro i s t hw h
  obtain ⟨-, e⟩ | ⟨-, e⟩ := exec_cases i s <;> cases e.symm.trans h
  have stores := storesOnly_formEffect s (form_ne_prefixCb hw)
  have keeps := keeps_formEffect s i.form
  exact ⟨fun a ho hx => (stores.bytes a ho hx).2, stores.timer, stores.irq, stores.latch, stores.nothing, keeps.romOnly,
    keeps.bootRom, keeps.params, keeps.totalCycles, keeps.opAddr, keeps.videoMode, keeps.inputs⟩

/-! ### The boot-skip -/

theorem newerOnly_iff (header : Byte) : newerOnly header = true ↔ header = 0xC0 := decide_eq_true_iff

theorem newerCapable_iff (header : Byte) :
    newerCapable header = true ↔ header = 0xC0 ∨ Config.newerCapable header = true := by
  rw [newerCapable, Bool.or_eq_true, newerOnly_iff]

/-- The key of an older device (70_reset_and_hazards.md R385). -/
theorem comboOf_dmg (header : Byte) : comboOf .dmg header = if header = 0xC0 then none else some .dmg :=
  if_congr (newerOnly_iff header) rfl rfl

/-- The key of a newer device (70_reset_and_hazards.md R385). -/
theorem comboOf_cgb (header : Byte) :
    comboOf .cgb header = some (if header = 0xC0 ∨ Config.newerCapable header = true then .cgb else .cgbCompat) :=
  congrArg some (if_congr (newerCapable_iff header) rfl rfl)

/-- Settles O60: the key is the device's generation and its header byte, and a row sets each field it holds. -/
theorem bootSkipKey : Obligations.BootSkipKey := by
  intro s
  refine ⟨fun hg hh => ?_, fun hg hh => ?_, fun hg => ?_, fun p =>
    ⟨getAf_setAf s p.af, mkWord_hi_lo p.bc, mkWord_hi_lo p.de, mkWord_hi_lo p.hl, rfl, rfl, rfl, rfl, rfl, rfl, rfl,
      rfl, rfl, rfl, rfl⟩⟩
  · rw [bootSkip, hg, comboOf_dmg, headerByte, if_pos hh]
    rfl
  · rw [bootSkip, hg, comboOf_dmg, headerByte, if_neg hh]
    rfl
  · rw [bootSkip, hg, comboOf_cgb, headerByte, Option.map_some]
    split <;> rfl

/-! ### I/O registers and reads -/

/-- An I/O address apart from the six of the core is the collaborator's (20_memory.md R77, R78). -/
theorem ioRegOf_ext {a : Addr} (hdiv : a ≠ 0xFF04) (htima : a ≠ 0xFF05) (htma : a ≠ 0xFF06) (htac : a ≠ 0xFF07)
    (hif : a ≠ 0xFF0F) (hboot : a ≠ 0xFF50) : ioRegOf a = .ext := by
  cases hi : ioRegOf a with
  | ext => rfl
  | div => exact absurd (ioRegOf_addr hi nofun) hdiv
  | tima => exact absurd (ioRegOf_addr hi nofun) htima
  | tma => exact absurd (ioRegOf_addr hi nofun) htma
  | tac => exact absurd (ioRegOf_addr hi nofun) htac
  | ifl => exact absurd (ioRegOf_addr hi nofun) hif
  | boot => exact absurd (ioRegOf_addr hi nofun) hboot

/-- An `EXT_IO` address is the collaborator's, read and written (20_memory.md R78). -/
theorem extOwned_access {a : Addr} (hr : regionOf a = .io) (hi : ioRegOf a = .ext) (s : State) (v : Byte) :
    readByte s a = extIoRead s ∧ writeByte s a v = extIoWrite s a v := by
  simp [readByte_io hr, writeByte_io hr, ioRead, ioWrite, hi]

/-- The unused bits of TAC read as 1 (20_memory.md R77). -/
theorem tac_reads (x : BitVec 3) : (0b11111 : BitVec 5) ++ x = 0xF8 ||| x.zeroExtend 8 := by
  revert x
  decide

/-- The unused bits of IF read as 1 (20_memory.md R77). -/
theorem ifl_reads (x : BitVec 5) : (0b111 : BitVec 3) ++ x = 0xE0 ||| x.zeroExtend 8 := by
  revert x
  decide

/-- Settles O10: each register by its owner; the boot latch is only ever set. -/
theorem ioRegisterMap : Obligations.IoRegisterMap := by
  intro s v
  refine ⟨⟨rfl, rfl⟩, ⟨rfl, rfl⟩, ⟨rfl, rfl⟩, ⟨congrArg (·, s) (tac_reads _), rfl⟩,
    ⟨congrArg (·, s) (ifl_reads _), rfl⟩, ⟨rfl, ?_⟩, fun a lo hi hdiv htima htma htac hif hboot => ?_⟩
  · have latch : writeByte s 0xFF50 v = { s with bootDisabled := s.bootDisabled || decide (v ≠ 0) } := rfl
    rw [latch]
    by_cases hv : v = 0
    · rw [if_pos hv, decide_eq_false (not_not.2 hv), Bool.or_false]
    · rw [if_neg hv, decide_eq_true hv, Bool.or_true]
  · exact extOwned_access (regionOf_eq lo hi) (ioRegOf_ext hdiv htima htma htac hif hboot) s v

/-- Settles O13: only `EXT_IO` and the cartridge answer from a state of their own. -/
theorem readsHaveNoSideEffect : Obligations.ReadsHaveNoSideEffect := by
  intro s a
  refine ⟨readByte_core s, fun he => ?_, fun ha => ⟨fun hc => ?_, fun n hc => ?_⟩⟩
  · obtain ⟨hr, hi⟩ : regionOf a = .io ∧ ioRegOf a = .ext := by simpa [extOwned] using he
    exact (extOwned_access hr hi s 0).1
  · rw [readByte_cart ha]
    exact Prod.ext (by simp [cartRead, cartAnswer, hc]) (cartRead_romOnly hc a)
  · simp [readByte_cart ha, cartRead, cartAnswer, hc, Cart.afterRead]

end Sys2Proof.Machine

namespace Sys2Proof

/-! ### Encoding and decoding -/

/-- The two bytes after an opcode with a 16-bit immediate decode to that immediate (30_encoding.md R106). -/
theorem decode_three {op : Byte} {k : Word → Instr} (h : primaryCell op = .three k) (w : Word) (rest : List Byte) :
    decode (op :: immLo w :: immHi w :: rest) = .ok (k w, rest) := by
  simp only [decode, h, imm16_bytes]

/-- Settles O1: each instruction stands in the maps at the opcode its encoding begins with, and an immediate is put
together from its two bytes. -/
theorem decodeOfEncode : Obligations.DecodeOfEncode := by
  intro i rest hw
  cases i with
  | prefixCb cb => exact absurd hw Bool.noConfusion
  | ldBcD16 w | ldDeD16 w | ldHlD16 w | ldSpD16 w => exact decode_three rfl w rest
  | ldAtA16Sp w | ldAtA16A w | ldAAtA16 w => exact decode_three rfl w rest
  | jpA16 w | jpNzA16 w | jpZA16 w | jpNcA16 w | jpCA16 w => exact decode_three rfl w rest
  | callA16 w | callNzA16 w | callZA16 w | callNcA16 w | callCA16 w => exact decode_three rfl w rest
  | _ => rfl

theorem immLo_imm16 (lo hi : Byte) : immLo (imm16 lo hi) = lo := BitVec.extractLsb'_append_eq_right

theorem immHi_imm16 (lo hi : Byte) : immHi (imm16 lo hi) = hi := BitVec.extractLsb'_append_eq_left

/-- Every term but the bare escape is a whole instruction (45_system.md R306). -/
theorem wellFormed_of_ne {i : Instr} (h : ∀ cb, i ≠ .prefixCb cb) : i.wellFormed = true := by
  cases i with
  | prefixCb cb => exact absurd rfl (h cb)
  | _ => rfl

/-- An encoding with another first byte than the escape is a whole instruction's. -/
theorem wellFormed_of_encode {i : Instr} {op : Byte} {bs : List Byte} (h : encode i = op :: bs)
    (hop : primaryCell op ≠ .escape) : i.wellFormed = true := by
  refine wellFormed_of_ne ?_
  rintro cb rfl
  cases h
  exact hop rfl

/-- Every cell of the secondary map is a whole instruction (30_encoding.md R112). -/
theorem secondaryInstr_wellFormed (cb : Byte) : (secondaryInstr cb).wellFormed = true := by
  refine wellFormed_of_ne fun b e => ?_
  have form := Machine.secondaryInstr_form cb
  rw [e, Machine.secondaryForm] at form
  split at form <;> cases form

/-- Settles O2: a cell of the map encodes to its own opcode and the bytes that were its operand. -/
theorem encodeOfDecode : Obligations.EncodeOfDecode := by
  intro bs rest i h
  rcases bs with _ | ⟨op, bs⟩
  · cases h
  have hc := primaryCell_encodes op
  have whole {i : Instr} {bs : List Byte} (e : encode i = op :: bs) := wellFormed_of_encode e
  simp only [decode] at h
  cases hp : primaryCell op <;> simp only [hp] at h hc whole
  case one j =>
    cases h
    exact ⟨congrArg (· ++ rest) hc, whole hc nofun⟩
  case two k =>
    rcases bs with _ | ⟨b, bs⟩ <;> cases h
    have e : encode (k b) = [op, b] := congrFun hc b
    exact ⟨congrArg (· ++ rest) e, whole e nofun⟩
  case three k =>
    rcases bs with _ | ⟨b, _ | ⟨c, bs⟩⟩ <;> cases h
    have e : encode (k (imm16 b c)) = [op, b, c] := by rw [congrFun hc (imm16 b c), immLo_imm16, immHi_imm16]
    exact ⟨congrArg (· ++ rest) e, whole e nofun⟩
  case escape =>
    rcases bs with _ | ⟨cb, bs⟩ <;> cases h
    rw [encode_secondaryInstr, hc]
    exact ⟨rfl, secondaryInstr_wellFormed cb⟩

/-- Settles O3: as many bytes as the first one asks for decode, the others follow, and fewer do not decode. -/
theorem decodeIsTotal : Obligations.DecodeIsTotal := by
  intro op rest
  have range := instrLength_range op
  refine ⟨by omega, fun ⟨i, r, h⟩ => ?_, fun h => ?_⟩
  · obtain ⟨length, -⟩ := decode_rest h
    omega
  · have enough : (rest.take (instrLength op - 1)).length + 1 = instrLength op := by
      rw [List.length_take]
      omega
    obtain ⟨i, hi⟩ := decode_exact enough
    have longer := decode_append hi (rest.drop (instrLength op - 1))
    rw [List.cons_append, List.take_append_drop] at longer
    exact ⟨i, _, longer⟩

/-! ### The maps by their fields -/

/-- The form of a cell of the primary map, as a function of the operand bytes its format takes (30_encoding.md R101). -/
inductive CellForm where
  | one (f : Form)
  | two (f : Byte → Form)
  | three (f : Word → Form)
  | escape

/-- The form of the instructions of a cell. -/
def Cell.form : Cell → CellForm
  | .one i => .one i.form
  | .two k => .two fun b => (k b).form
  | .three k => .three fun w => (k w).form
  | .escape => .escape

section

variable {op : Byte} (rest : List Byte)

/-- An opcode whose cell takes no operand byte decodes to an instruction of the cell's form (30_encoding.md R116). -/
theorem decode_form_one {f : Form} (h : (primaryCell op).form = .one f) :
    ∃ i, decode (op :: rest) = .ok (i, rest) ∧ i.form = f := by
  cases hc : primaryCell op <;> rw [hc] at h <;> cases h
  exact ⟨_, by simp only [decode, hc], rfl⟩

/-- An opcode whose cell takes one operand byte, and that byte (30_encoding.md R116). -/
theorem decode_form_two {f : Byte → Form} (h : (primaryCell op).form = .two f) (b : Byte) :
    ∃ i, decode (op :: b :: rest) = .ok (i, rest) ∧ i.form = f b := by
  cases hc : primaryCell op <;> rw [hc] at h <;> cases h
  exact ⟨_, by simp only [decode, hc], rfl⟩

/-- An opcode whose cell takes a 16-bit immediate, and its two bytes, low byte first (30_encoding.md R106, R116). -/
theorem decode_form_three {f : Word → Form} (h : (primaryCell op).form = .three f) (b c : Byte) :
    ∃ i, decode (op :: b :: c :: rest) = .ok (i, rest) ∧ i.form = f (c ++ b) := by
  cases hc : primaryCell op <;> rw [hc] at h <;> cases h
  exact ⟨_, by simp only [decode, hc, imm16], rfl⟩

end

/-- What holds of a field at each of its numbers holds of every field: the tables below are checked cell by cell. -/
theorem forall_bitVec {w : Nat} {P : BitVec w → Prop} (h : ∀ n < 2 ^ w, P (BitVec.ofNat w n)) (x : BitVec w) :
    P x := by
  simpa using h x.toNat x.isLt

namespace Machine

/-- Block x = 1: the loads, with HALT in the place of LD (HL),(HL) (30_encoding.md R109). -/
theorem cell_load : ∀ d s : BitVec 3,
    (primaryCell ((0b01 : BitVec 2) ++ d ++ s)).form =
      .one (if d = 6 ∧ s = 6 then .halt else .ld (r8OfField d) (r8OfField s)) :=
  forall_bitVec fun m hm => forall_bitVec fun n hn => by
    interval_cases m <;> interval_cases n <;> exact rfl

/-- Block x = 2: the ALU operations (30_encoding.md R110). -/
theorem cell_alu : ∀ op s : BitVec 3,
    (primaryCell ((0b10 : BitVec 2) ++ op ++ s)).form = .one (.alu (aluOfField op) (r8OfField s)) :=
  forall_bitVec fun m hm => forall_bitVec fun n hn => by
    interval_cases m <;> interval_cases n <;> exact rfl

/-- Settles O4: the cells of both blocks. -/
theorem registerBlockFields : Obligations.RegisterBlockFields := by
  refine ⟨fun d s rest h => ?_, fun _ => rfl, fun op s rest => decode_form_one rest (cell_alu op s), rfl, rfl⟩
  have load := cell_load d s
  rw [if_neg h] at load
  exact decode_form_one rest load

/-- Block x = 0, columns z = 4, 5 and 6: the forms with an 8-bit operand (30_encoding.md R108). -/
theorem cell_operand : ∀ y : BitVec 3,
    (primaryCell ((0b00 : BitVec 2) ++ y ++ (4 : BitVec 3))).form = .one (.inc8 (r8OfField y)) ∧
      (primaryCell ((0b00 : BitVec 2) ++ y ++ (5 : BitVec 3))).form = .one (.dec8 (r8OfField y)) ∧
      (primaryCell ((0b00 : BitVec 2) ++ y ++ (6 : BitVec 3))).form = .two (.ldImm (r8OfField y)) :=
  forall_bitVec fun n hn => by
    interval_cases n <;> exact ⟨rfl, rfl, rfl⟩

/-- Block x = 0, columns z = 1, 2 and 3, and the conditional jumps of column 0 (30_encoding.md R104, R105, R108). -/
theorem cell_pair : ∀ p : BitVec 2,
    (primaryCell ((0b00 : BitVec 2) ++ p ++ (0b0001 : BitVec 4))).form = .three (.ld16 (r16OfField p)) ∧
      (primaryCell ((0b00 : BitVec 2) ++ p ++ (0b1001 : BitVec 4))).form = .one (.addHl (r16OfField p)) ∧
      (primaryCell ((0b00 : BitVec 2) ++ p ++ (0b0010 : BitVec 4))).form = .one (.stA (memOfField p)) ∧
      (primaryCell ((0b00 : BitVec 2) ++ p ++ (0b1010 : BitVec 4))).form = .one (.ldA (memOfField p)) ∧
      (primaryCell ((0b00 : BitVec 2) ++ p ++ (0b0011 : BitVec 4))).form = .one (.inc16 (r16OfField p)) ∧
      (primaryCell ((0b00 : BitVec 2) ++ p ++ (0b1011 : BitVec 4))).form = .one (.dec16 (r16OfField p)) ∧
      (primaryCell ((0b001 : BitVec 3) ++ p ++ (0b000 : BitVec 3))).form = .two (.jrCc (ccOfField p)) :=
  forall_bitVec fun n hn => by
    interval_cases n <;> exact ⟨rfl, rfl, rfl, rfl, rfl, rfl, rfl⟩

/-- Settles O5: the cells of the block, each decoded by its format. -/
theorem blockZeroFields : Obligations.BlockZeroFields := by
  refine ⟨fun y b2 rest => ?_, fun p b2 b3 rest => ?_⟩
  · obtain ⟨inc, dec, ld⟩ := cell_operand y
    exact ⟨decode_form_one rest inc, decode_form_one rest dec, decode_form_two rest ld b2⟩
  · obtain ⟨ld16, addHl, stA, ldA, inc, dec, jr⟩ := cell_pair p
    exact ⟨decode_form_three rest ld16 b2 b3, decode_form_one rest addHl, decode_form_one rest stA,
      decode_form_one rest ldA, decode_form_one rest inc, decode_form_one rest dec, decode_form_two rest jr b2⟩

/-- Block x = 3: the conditional forms and the stack forms (30_encoding.md R104, R105, R111). -/
theorem cell_control : ∀ p : BitVec 2,
    (primaryCell ((0b110 : BitVec 3) ++ p ++ (0b000 : BitVec 3))).form = .one (.retCc (ccOfField p)) ∧
      (primaryCell ((0b110 : BitVec 3) ++ p ++ (0b010 : BitVec 3))).form = .three (.jpCc (ccOfField p)) ∧
      (primaryCell ((0b110 : BitVec 3) ++ p ++ (0b100 : BitVec 3))).form = .three (.callCc (ccOfField p)) ∧
      (primaryCell ((0b11 : BitVec 2) ++ p ++ (0b0001 : BitVec 4))).form = .one (.pop (stkOfField p)) ∧
      (primaryCell ((0b11 : BitVec 2) ++ p ++ (0b0101 : BitVec 4))).form = .one (.push (stkOfField p)) :=
  forall_bitVec fun n hn => by
    interval_cases n <;> exact ⟨rfl, rfl, rfl, rfl, rfl⟩

/-- Block x = 3, columns z = 6 and 7: the ALU operations with an immediate, and RST (30_encoding.md R107, R111). -/
theorem cell_immediate : ∀ y : BitVec 3,
    (primaryCell ((0b11 : BitVec 2) ++ y ++ (6 : BitVec 3))).form = .two (.aluImm (aluOfField y)) ∧
      (primaryCell ((0b11 : BitVec 2) ++ y ++ (7 : BitVec 3))).form = .one (.rst y) :=
  forall_bitVec fun n hn => by
    interval_cases n <;> exact ⟨rfl, rfl⟩

/-- Settles O6: the cells of the block, each decoded by its format. -/
theorem blockThreeFields : Obligations.BlockThreeFields := by
  refine ⟨fun p b2 b3 rest => ?_, fun y b2 rest => ?_⟩
  · obtain ⟨ret, jp, call, pop, push⟩ := cell_control p
    exact ⟨decode_form_one rest ret, decode_form_three rest jp b2 b3, decode_form_three rest call b2 b3,
      decode_form_one rest pop, decode_form_one rest push⟩
  · obtain ⟨alu, rst⟩ := cell_immediate y
    exact ⟨decode_form_two rest alu b2, decode_form_one rest rst⟩

/-- A byte put together from its fields x, y and z has them (30_encoding.md R102). -/
theorem byte_fields (x : BitVec 2) (y z : BitVec 3) :
    (x ++ y ++ z : Byte).extractLsb' 6 2 = x ∧ (x ++ y ++ z : Byte).extractLsb' 3 3 = y ∧
      (x ++ y ++ z : Byte).extractLsb' 0 3 = z := by
  refine ⟨?_, ?_, ?_⟩ <;> revert x y z <;> decide

/-- Settles O7: the form of a secondary instruction is that of its byte's fields. -/
theorem secondaryFields : Obligations.SecondaryFields := by
  intro y z rest
  have form (x : BitVec 2) := secondaryInstr_form (x ++ y ++ z)
  have fields (x : BitVec 2) := byte_fields x y z
  refine ⟨⟨_, rfl, ?_⟩, ⟨_, rfl, ?_⟩, ⟨_, rfl, ?_⟩, ⟨_, rfl, ?_⟩, rfl⟩ <;>
    simp [form, secondaryForm, fields]

end Machine
end Sys2Proof

namespace Sys2Proof.Machine

/-! ### Loads and stores of a byte -/

/-- An instruction that is whole and no STOP ends in its form's effect, at 4 T-cycles for every byte access and internal
M-cycle its tables count, where `MEM_T` and `M_T` have their default (70_reset_and_hazards.md R396, R397). -/
theorem completes_of_form {i : Instr} {f : Form} {s : State} {k : Nat} (hi : i.form = f) (hs : isStop f = false)
    (hp : ∀ cb, f ≠ .prefixCb cb) (hk : (formLength f + formData s f) * 4 + formInternal s f * 4 = k) :
    Completes i s (formEffect f s) k := by
  refine ⟨exec_of_form hi hs s, fun hmem hm => ?_⟩
  rw [formEffect_tCycles hs hp, tCycles, hmem, hm, hk]

/-- A byte goes to an operand and the cost is recorded: nothing else is written, and F stays (30_encoding.md R103). -/
theorem charge_writeR8 (o : R8) (v : Byte) (s : State) (n : Nat) :
    OperandWritten o v s (charge (writeR8 o v s) n 0) ∧ (charge (writeR8 o v s) n 0).regs.f = s.regs.f :=
  ⟨operandWritten_writeR8 o v (fun r => by cases r <;> rfl) (same_charge _ n 0), writeR8_f s o v⟩

/-- Settles O14: the byte read, or the immediate, is what is written to the destination. -/
theorem loadByteRuns : Obligations.LoadByteRuns := by
  refine ⟨fun i dst src s hi => ?_, fun i dst v s hi => ?_⟩
  · obtain ⟨written, flags⟩ :=
      charge_writeR8 dst (readR8 src s).1 (readR8 src s).2 (if dst = .atHl ∨ src = .atHl then 2 else 1)
    refine ⟨loadR8R8 dst src s, completes_of_form hi rfl nofun ?_, written, flags.trans (by rw [readR8_regs])⟩
    show (1 + if dst = .atHl ∨ src = .atHl then 1 else 0) * 4 + 0 * 4 = _
    split <;> rfl
  · refine ⟨loadR8Imm dst v s, completes_of_form hi rfl nofun ?_, charge_writeR8 dst v s _⟩
    show (2 + if dst = .atHl then 1 else 0) * 4 + 0 * 4 = _
    split <;> rfl

/-- `0xFF00 | n` is `0xFF00 + n` (30_encoding.md R106). -/
theorem highAddr_eq_add : ∀ n : Byte, highAddr n = 0xFF00 + n.zeroExtend 16 := by
  decide +kernel

/-- A is the byte at the address (40_load_store.md R138, R140, R142). -/
theorem loadAAt_loads (a : Addr) (n : Nat) (s : State) :
    (loadAAt a n s).regs.a = peek s a ∧ SameButRegs (readByte s a).2 (loadAAt a n s) :=
  ⟨rfl, (same_setA _ _).trans (same_charge _ n 0)⟩

/-- A is stored at the address (40_load_store.md R139, R141, R143). -/
theorem storeAAt_stores (a : Addr) (n : Nat) (s : State) : SameButRegs (writeByte s a s.regs.a) (storeAAt a n s) :=
  same_charge _ n 0

/-- Settles O17: each form is a load or a store of A at its own address. -/
theorem absoluteLoadStoreRuns : Obligations.AbsoluteLoadStoreRuns := by
  intro i s
  simp only [← highAddr_eq_add]
  exact ⟨fun a hi => ⟨_, completes_of_form hi rfl nofun rfl, loadAAt_loads a 4 s⟩,
    fun n hi => ⟨_, completes_of_form hi rfl nofun rfl, loadAAt_loads (highAddr n) 3 s⟩,
    fun hi => ⟨_, completes_of_form hi rfl nofun rfl, loadAAt_loads (highAddr s.regs.c) 2 s⟩,
    fun a hi => ⟨_, completes_of_form hi rfl nofun rfl, storeAAt_stores a 4 s⟩,
    fun n hi => ⟨_, completes_of_form hi rfl nofun rfl, storeAAt_stores (highAddr n) 3 s⟩,
    fun hi => ⟨_, completes_of_form hi rfl nofun rfl, storeAAt_stores (highAddr s.regs.c) 2 s⟩⟩

/-! ### The fetch where no collaborator answers -/

/-- The byte a read gives does not depend on PC. -/
@[simp] theorem peek_setPc (s : State) (v a : Addr) : peek (setPc s v) a = peek s a :=
  ((same_setPc s v).readByte a).1

/-- The addresses of a run of bytes, counted from its second byte and from its first. -/
theorem addr_succ (a : Addr) (k : Nat) : a + 1 + BitVec.ofNat 16 k = a + BitVec.ofNat 16 (k + 1) := by
  rw [BitVec.add_assoc, Nat.add_comm k 1, BitVec.ofNat_add]
  rfl

/-- Bytes are fetched from PC at rising addresses, and nothing changes but PC, which ends past them (00_scope.md R10). -/
theorem fetchMore_core (n : Nat) {s : State}
    (h : ∀ k, k < n → answeredOutside s (s.regs.pc + BitVec.ofNat 16 k) = false) :
    fetchMore n s =
      ((List.range n).map (fun k => peek s (s.regs.pc + BitVec.ofNat 16 k)), setPc s (s.regs.pc + BitVec.ofNat 16 n)) := by
  have start {s : State} : s.regs.pc + BitVec.ofNat 16 0 = s.regs.pc := BitVec.add_zero _
  induction n generalizing s with
  | zero => rw [start]; rfl
  | succ n ih =>
    have first : fetch8 s = (peek s s.regs.pc, setPc s (s.regs.pc + 1)) := by
      rw [fetch8_eq, readByte_core s (start ▸ h 0 (Nat.zero_lt_succ n))]
      rfl
    have later := ih (s := setPc s (s.regs.pc + 1)) fun k hk => by
      rw [setPc_pc, addr_succ]
      exact h (k + 1) (Nat.succ_lt_succ hk)
    simp only [setPc_pc, addr_succ, peek_setPc] at later
    rw [fetchMore, first]
    dsimp only
    rw [later, List.range_succ_eq_map, List.map_cons, List.map_map, start]
    rfl

/-- How far the fetch of the opcode moves PC: not at all with the halt bug pending (45_system.md R301). -/
def opcodeAdvance (s : State) : Addr := if s.engine.haltBug then 0 else 1

/-- The state after the fetch of the opcode (60_exceptions.md R351). -/
def afterOpcode (s : State) : State :=
  { s with
    regs := { s.regs with pc := s.regs.pc + opcodeAdvance s }
    engine := { s.engine with haltBug := false }
    opAddr := s.regs.pc }

theorem pc_add_opcodeAdvance (s : State) :
    s.regs.pc + opcodeAdvance s = if s.engine.haltBug then s.regs.pc else s.regs.pc + 1 := by
  unfold opcodeAdvance
  split
  · exact BitVec.add_zero _
  · rfl

theorem fetchOpcode_core {s : State} (h : answeredOutside s s.regs.pc = false) :
    fetchOpcode s = (peek s s.regs.pc, afterOpcode s) := by
  unfold fetchOpcode
  dsimp only
  rw [readByte_core s h, ← pc_add_opcodeAdvance]
  rfl

/-- The operand bytes stand at PC and after it, one address lower than their place where the halt bug is pending
(45_system.md R301). -/
theorem operand_addr (s : State) (k : Nat) :
    ∃ j, j ≤ k + 1 ∧ s.regs.pc + opcodeAdvance s + BitVec.ofNat 16 k = s.regs.pc + BitVec.ofNat 16 j := by
  rw [pc_add_opcodeAdvance]
  split
  · exact ⟨k, Nat.le_succ k, rfl⟩
  · exact ⟨k + 1, le_rfl, addr_succ _ k⟩

/-- The fetch of an instruction none of whose bytes a collaborator answers (60_exceptions.md R351). -/
theorem fetchInstr_core {s : State}
    (h : ∀ k, k < instrLength (peek s s.regs.pc) → answeredOutside s (s.regs.pc + BitVec.ofNat 16 k) = false) :
    fetchInstr s =
      (peek s s.regs.pc ::
        (List.range (instrLength (peek s s.regs.pc) - 1)).map
          (fun k => peek s (s.regs.pc + opcodeAdvance s + BitVec.ofNat 16 k)),
        setPc (afterOpcode s)
          (s.regs.pc + opcodeAdvance s + BitVec.ofNat 16 (instrLength (peek s s.regs.pc) - 1))) := by
  obtain ⟨positive, -⟩ := instrLength_range (peek s s.regs.pc)
  have opcode : fetchOpcode s = (peek s s.regs.pc, afterOpcode s) :=
    fetchOpcode_core (BitVec.add_zero s.regs.pc ▸ h 0 positive)
  have inside : ∀ k, k < instrLength (peek s s.regs.pc) - 1 →
      answeredOutside s (s.regs.pc + opcodeAdvance s + BitVec.ofNat 16 k) = false := by
    intro k hk
    obtain ⟨j, hj, e⟩ := operand_addr s k
    rw [e]
    exact h j (by omega)
  have operands := fetchMore_core (s := afterOpcode s) _ inside
  have same : ∀ k ∈ List.range (instrLength (peek s s.regs.pc) - 1),
      peek (afterOpcode s) (s.regs.pc + opcodeAdvance s + BitVec.ofNat 16 k) =
        peek s (s.regs.pc + opcodeAdvance s + BitVec.ofNat 16 k) := fun k hk =>
    peek_congr (inside k (List.mem_range.1 hk)) rfl rfl (fun _ => rfl) rfl id (fun _ => ⟨rfl, rfl⟩) fun _ => rfl
  unfold fetchInstr
  rw [opcode]
  dsimp only
  rw [operands]
  exact Prod.ext (congrArg (List.cons _) (List.map_congr_left same)) rfl

/-- Settles O47: the fetch as said where no collaborator answers, and what it keeps in any case. -/
theorem fetchFollowsPc : Obligations.FetchFollowsPc := by
  intro s
  obtain ⟨positive, -⟩ := instrLength_range (peek s s.regs.pc)
  obtain ⟨hmem, -, -, -, -, htimer, hirq⟩ := fetchInstr_keeps s
  refine ⟨fun h => ?_, ?_, rfl, ?_, fetchInstr_engine s, fetchInstr_opAddr s, hmem, hirq, htimer⟩
  · rw [fetchInstr_core h]
    exact ⟨rfl, rfl⟩
  · rw [fetchInstr_fst, List.length_cons, fetchMore_length]
    exact Nat.sub_add_cancel positive
  · rw [fetchInstr_regs, ← pc_add_opcodeAdvance]
    rfl

end Sys2Proof.Machine

namespace Sys2Proof.Machine

/-! ### Loads and stores of A through a pair, words, PUSH -/

/-- HL after the access through an `r16mem` operand, from HL before it (30_encoding.md R104). -/
def hlAfter : R16Mem → Word → Word
  | .bc, hl => hl
  | .de, hl => hl
  | .hlInc, hl => hl + 1
  | .hlDec, hl => hl - 1

theorem getHl_memAfter (m : R16Mem) (s : State) : getHl (memAfter m s) = hlAfter m (getHl s) := by
  cases m with
  | bc | de => rfl
  | hlInc | hlDec => exact getHl_setHl s _

@[simp] theorem memAfter_a (m : R16Mem) (s : State) : (memAfter m s).regs.a = s.regs.a := by
  cases m <;> rfl

@[simp] theorem memAfter_f (m : R16Mem) (s : State) : (memAfter m s).regs.f = s.regs.f := by
  cases m <;> rfl

/-- A is the byte at the operand's address, and HL goes on from there (40_load_store.md R132, R134, R135). -/
theorem loadAMem_loads (m : R16Mem) (s : State) :
    ((loadAMem m s).regs.a = peek s (memAddr m s) ∧ getHl (loadAMem m s) = hlAfter m (getHl s) ∧
      SameButRegs (readByte s (memAddr m s)).2 (loadAMem m s)) ∧ (loadAMem m s).regs.f = s.regs.f := by
  have hl : getHl (setA (readByte s (memAddr m s)).2 (readByte s (memAddr m s)).1) = getHl s := by
    rw [getHl, setA_h, setA_l, readByte_regs, getHl]
  refine ⟨⟨memAfter_a m _, (getHl_memAfter m _).trans (congrArg (hlAfter m) hl), ?_⟩, (memAfter_f m _).trans ?_⟩
  · exact ((same_setA _ _).trans (same_memAfter _ m)).trans (same_charge _ 2 0)
  · rw [setA_f, readByte_regs]

/-- Settles O15: each operand by its address and by what it does to HL. -/
theorem loadAThroughPairRuns : Obligations.LoadAThroughPairRuns := by
  intro i m s hi
  obtain ⟨loaded, flags⟩ := loadAMem_loads m s
  refine ⟨loadAMem m s, completes_of_form hi rfl nofun rfl, ?_, ?_, ?_, ?_, flags⟩ <;>
    (rintro rfl; exact loaded)

/-- A is stored at the operand's address and stays, and HL goes on from there (40_load_store.md R133, R136, R137). -/
theorem storeAMem_stores (m : R16Mem) (s : State) :
    (getHl (storeAMem m s) = hlAfter m (getHl s) ∧
      SameButRegs (writeByte s (memAddr m s) s.regs.a) (storeAMem m s)) ∧
      (storeAMem m s).regs.a = s.regs.a ∧ (storeAMem m s).regs.f = s.regs.f := by
  have regs := writeByte_regs s (memAddr m s) s.regs.a
  have hl : getHl (writeByte s (memAddr m s) s.regs.a) = getHl s := by rw [getHl, regs, getHl]
  exact ⟨⟨(getHl_memAfter m _).trans (congrArg (hlAfter m) hl), (same_memAfter _ m).trans (same_charge _ 2 0)⟩,
    (memAfter_a m _).trans (congrArg Regs.a regs), (memAfter_f m _).trans (congrArg Regs.f regs)⟩

/-- Settles O16: each operand by its address and by what it does to HL. -/
theorem storeAThroughPairRuns : Obligations.StoreAThroughPairRuns := by
  intro i m s hi
  obtain ⟨stored, kept⟩ := storeAMem_stores m s
  refine ⟨storeAMem m s, completes_of_form hi rfl nofun rfl, ?_, ?_, ?_, ?_, kept⟩ <;>
    (rintro rfl; exact stored)

theorem writeR16_f (r : R16) (v : Word) (s : State) : (writeR16 r v s).regs.f = s.regs.f := by
  cases r <;> rfl

/-- A pair loaded is read back, whatever cost is recorded (30_encoding.md R104). -/
theorem readR16_loadR16 (r : R16) (v : Word) (s : State) : readR16 r (loadR16 r v s) = v := by
  have charged : readR16 r (loadR16 r v s) = readR16 r (writeR16 r v s) := by cases r <;> rfl
  rw [charged, readR16_writeR16]

/-- Settles O18: a pair written, SP set, and SP stored by its two bytes. -/
theorem loadWordRuns : Obligations.LoadWordRuns := by
  refine ⟨fun i r v s hi => ⟨_, completes_of_form hi rfl nofun rfl, readR16_loadR16 r v s, ?_, writeR16_f r v s⟩,
    fun i s hi => ⟨_, completes_of_form hi rfl nofun rfl, rfl, ?_, rfl⟩, fun i a s hi => ?_⟩
  · exact (same_writeR16 s r v).trans (same_charge _ 3 0)
  · exact (same_setSp s _).trans (same_charge _ 1 1)
  · have cost : tCycles (writeWord s a s.regs.sp).params 5 0 = 5 * s.params.memT := by
      rw [writeWord_params, tCycles, Nat.zero_mul, Nat.add_zero]
    rw [exec_of_form hi rfl, ← cost]
    rfl

/-- Settles O19: a push is two byte writes below SP. -/
theorem pushRuns : Obligations.PushRuns := by
  intro i r s hi
  have above : s.regs.sp - 2 + 1 = s.regs.sp - 1 := by bv_omega
  refine ⟨pushStk r s, completes_of_form hi rfl nofun rfl, push16_sp s (readStk r s), ?_⟩
  rw [← above]
  exact (push16_same s (readStk r s)).trans (same_charge _ 3 1)

/-! ### Words of the examples -/

/-- Settles O8: each word is the encoding of its instruction. -/
theorem sampleWordsDecode : Obligations.SampleWordsDecode :=
  ⟨decodeOfEncode (.ldAD8 0x5A) [] rfl, decodeOfEncode (.ldHlD16 0x1234) [] rfl,
    decodeOfEncode (.ldAtA16Sp 0xC000) [] rfl, decodeOfEncode (.sbcAD8 0x4F) [] rfl,
    decodeOfEncode (.addSpE8 0x02) [] rfl, decodeOfEncode .bit7A [] rfl, decodeOfEncode (.jrNzE8 0xFB) [] rfl,
    decodeOfEncode (.callCA16 0x3000) [] rfl, decodeOfEncode .illegalD3 [0x3C] rfl⟩

end Sys2Proof.Machine

namespace Sys2Proof.Machine

/-! ### 8-bit arithmetic: what the primitives answer -/

theorem lowNibble_toNat (v : Byte) : (v &&& 0x0F).toNat = v.toNat % 16 := by
  rw [BitVec.toNat_and]
  exact Nat.and_two_pow_sub_one_eq_mod v.toNat 4

/-- A byte is zero exactly where its value is. -/
theorem byte_eq_zero_iff (v : Byte) : v = 0 ↔ v.toNat = 0 := BitVec.toNat_eq

/-- A byte made of an unbounded integer holds it modulo 256. -/
theorem ofInt_byte_toNat (r : Int) : ((BitVec.ofInt 8 r).toNat : Int) = r % 256 := by
  rw [BitVec.toNat_ofInt]
  exact Int.toNat_of_nonneg (Int.emod_nonneg r (by decide))

/-- The difference and the carry-in make up the minuend again, modulo 256 (41_alu8.md R171). -/
theorem sub8_res (a b : Byte) (cin : Bool) : SubResult a b cin (sub8 a b cin).res := by
  have res : ((sub8 a b cin).res.toNat : Int) = ((a.toNat : Int) - b.toNat - cin.toNat) % 256 := ofInt_byte_toNat _
  have ha := a.isLt
  unfold SubResult
  omega

/-- The four flags of a difference are comparisons of unbounded values (41_alu8.md R171). -/
theorem subFlags_of_sub8 {a b : Byte} {cin : Bool} {t : State}
    (h : FlagsAre t (sub8 a b cin).z (sub8 a b cin).n (sub8 a b cin).h (sub8 a b cin).c) : SubFlags a b cin t := by
  have res : ((sub8 a b cin).res.toNat + b.toNat + cin.toNat) % 256 = a.toNat := sub8_res a b cin
  have small := (sub8 a b cin).res.isLt
  obtain ⟨hz, hn, hh, hc⟩ := h
  refine ⟨hz.trans ?_, hn, hh.trans ?_, hc.trans ?_⟩
  · show decide ((sub8 a b cin).res = 0) = _
    rw [decide_eq_decide, byte_eq_zero_iff]
    omega
  · simp only [sub8, lowNibble_toNat, decide_eq_decide]
    omega
  · simp only [sub8, decide_eq_decide]
    omega

/-- A sum in A with its four flags, in unbounded sums (41_alu8.md R170). -/
theorem addOutcome_of_add8 {a b : Byte} {cin : Bool} {t : State} (ha : t.regs.a = (add8 a b cin).res)
    (h : FlagsAre t (add8 a b cin).z (add8 a b cin).n (add8 a b cin).h (add8 a b cin).c) : AddOutcome a b cin t := by
  have res : (add8 a b cin).res.toNat = (a.toNat + b.toNat + cin.toNat) % 256 := BitVec.toNat_ofNat _ 8
  obtain ⟨hz, hn, hh, hc⟩ := h
  refine ⟨ha ▸ res, hz.trans ?_, hn, hh.trans ?_, hc⟩
  · show decide ((add8 a b cin).res = 0) = _
    rw [decide_eq_decide, byte_eq_zero_iff, res]
  · simp only [add8, lowNibble_toNat]

/-! ### The ALU operations on A -/

/-- The flags last written are the flags, whatever cost is recorded. -/
theorem flagsAre_charge_setFlags (s : State) (z n h c : Bool) (m k : Nat) :
    FlagsAre (charge (setFlags s z n h c) m k) z n h c :=
  ⟨flagZ_setFlags s z n h c, flagN_setFlags s z n h c, flagH_setFlags s z n h c, flagC_setFlags s z n h c⟩

/-- A and the flags of `t` are what an ALU operation answers, but for the A of CP, which stays (41_alu8.md R187). -/
structure AluAnswers (op : AluOp) (a v : Byte) (cin : Bool) (t : State) : Prop where
  acc : t.regs.a = if op = .cp then a else (aluCompute op a v cin).res
  flags : FlagsAre t (aluCompute op a v cin).z (aluCompute op a v cin).n (aluCompute op a v cin).h
    (aluCompute op a v cin).c

theorem aluWriteBack_answers {op : AluOp} {a v : Byte} {cin : Bool} {s : State} (ha : s.regs.a = a) (n : Nat) :
    AluAnswers op a v cin (charge (aluWriteBack op (aluCompute op a v cin) s) n 0) where
  acc := by
    show (if op = .cp then s else setA s (aluCompute op a v cin).res).regs.a = _
    split
    · exact ha
    · rfl
  flags := flagsAre_charge_setFlags _ _ _ _ _ n 0

theorem same_aluWriteBack (op : AluOp) (x : AluResult) (s : State) : SameButRegs s (aluWriteBack op x s) := by
  unfold aluWriteBack
  split
  · exact same_setFlags s _ _ _ _
  · exact (same_setA s _).trans (same_setFlags _ _ _ _ _)

/-- An ALU operation with a register or `(HL)` completes with its answer (41_alu8.md R173 to R187, the odd rules). -/
theorem alu_completes {i : Instr} {op : AluOp} {o : R8} (hi : i.form = .alu op o) (s : State) :
    ∃ t, Completes i s t (if o = .atHl then 8 else 4) ∧ AluAnswers op s.regs.a (readR8 o s).1 (flagC s) t ∧
      SameButRegs (readR8 o s).2 t := by
  refine ⟨aluR8 op o s, completes_of_form hi rfl nofun ?_, aluWriteBack_answers (by rw [readR8_regs]) _,
    (same_aluWriteBack op _ _).trans (same_charge _ _ 0)⟩
  show (1 + if o = .atHl then 1 else 0) * 4 + 0 * 4 = _
  split <;> rfl

/-- An ALU operation with an immediate completes with its answer (41_alu8.md R174 to R188, the even rules). -/
theorem aluImm_completes {i : Instr} {op : AluOp} {v : Byte} (hi : i.form = .aluImm op v) (s : State) :
    ∃ t, Completes i s t 8 ∧ AluAnswers op s.regs.a v (flagC s) t ∧ SameButRegs s t :=
  ⟨aluImm op v s, completes_of_form hi rfl nofun rfl, aluWriteBack_answers rfl _,
    (same_aluWriteBack op _ s).trans (same_charge _ _ 0)⟩

section

variable {op : AluOp} {a v : Byte} {cin : Bool} {t : State}

/-- ADD and ADC answer a sum, ADC with the carry (41_alu8.md R173, R175). -/
theorem AluAnswers.add (h : AluAnswers op a v cin t) (hop : op = .add ∨ op = .adc) :
    AddOutcome a v (decide (op = .adc) && cin) t := by
  obtain rfl | rfl := hop <;> exact addOutcome_of_add8 h.acc h.flags

/-- SUB, SBC and CP answer a difference, SBC with the carry, and CP keeps A (41_alu8.md R177, R179, R187). -/
theorem AluAnswers.sub (h : AluAnswers op a v cin t) (hop : op = .sub ∨ op = .sbc ∨ op = .cp) :
    SubFlags a v (decide (op = .sbc) && cin) t ∧
      (op ≠ .cp → SubResult a v (decide (op = .sbc) && cin) t.regs.a) ∧ (op = .cp → t.regs.a = a) := by
  obtain rfl | rfl | rfl := hop
  · exact ⟨subFlags_of_sub8 h.flags, fun _ => h.acc ▸ sub8_res a v false, nofun⟩
  · exact ⟨subFlags_of_sub8 h.flags, fun _ => h.acc ▸ sub8_res a v cin, nofun⟩
  · exact ⟨subFlags_of_sub8 h.flags, fun hcp => absurd rfl hcp, fun _ => h.acc⟩

/-- AND, XOR and OR answer the bitwise result (41_alu8.md R181, R183, R185). -/
theorem AluAnswers.logic (h : AluAnswers op a v cin t) (hop : op = .and ∨ op = .xor ∨ op = .or) :
    (op = .and → t.regs.a = a &&& v) ∧ (op = .xor → t.regs.a = a ^^^ v) ∧ (op = .or → t.regs.a = a ||| v) ∧
      FlagsAre t (decide (t.regs.a = 0)) false (decide (op = .and)) false := by
  obtain ⟨acc, flags⟩ := h
  obtain rfl | rfl | rfl := hop
  · exact ⟨fun _ => acc, nofun, nofun, acc ▸ flags⟩
  · exact ⟨nofun, fun _ => acc, nofun, acc ▸ flags⟩
  · exact ⟨nofun, nofun, fun _ => acc, acc ▸ flags⟩

end

/-- Settles O22: both forms by the answer of their operation. -/
theorem addRuns : Obligations.AddRuns := by
  refine ⟨fun i op o s hop hi => ?_, fun i op v s hop hi => ?_⟩
  · obtain ⟨t, runs, answers, same⟩ := alu_completes hi s
    exact ⟨t, runs, answers.add hop, same⟩
  · obtain ⟨t, runs, answers, same⟩ := aluImm_completes hi s
    exact ⟨t, runs, answers.add hop, same⟩

/-- Settles O23: both forms by the answer of their operation. -/
theorem subRuns : Obligations.SubRuns := by
  refine ⟨fun i op o s hop hi => ?_, fun i op v s hop hi => ?_⟩
  · obtain ⟨t, runs, answers, same⟩ := alu_completes hi s
    obtain ⟨flags, result, kept⟩ := answers.sub hop
    exact ⟨t, runs, flags, result, kept, same⟩
  · obtain ⟨t, runs, answers, same⟩ := aluImm_completes hi s
    obtain ⟨flags, result, kept⟩ := answers.sub hop
    exact ⟨t, runs, flags, result, kept, same⟩

/-- Settles O24: both forms by the answer of their operation. -/
theorem logicRuns : Obligations.LogicRuns := by
  refine ⟨fun i op o s hop hi => ?_, fun i op v s hop hi => ?_⟩
  · obtain ⟨t, runs, answers, same⟩ := alu_completes hi s
    obtain ⟨and, xor, or, flags⟩ := answers.logic hop
    exact ⟨t, runs, and, xor, or, flags, same⟩
  · obtain ⟨t, runs, answers, same⟩ := aluImm_completes hi s
    obtain ⟨and, xor, or, flags⟩ := answers.logic hop
    exact ⟨t, runs, and, xor, or, flags, same⟩

/-! ### INC r8 and DEC r8 -/

/-- The low nibble is `k` exactly where the value is `k` modulo 16. -/
theorem lowNibble_eq_iff (v k : Byte) : v &&& 0x0F = k ↔ v.toNat % 16 = k.toNat := by
  rw [BitVec.toNat_eq, lowNibble_toNat]

/-- The operand is written before F and the cost, which leave it (41_alu8.md R190, R191). -/
theorem operandWritten_charge_setFlags (o : R8) (v : Byte) (s : State) (z n h c : Bool) (m : Nat) :
    OperandWritten o v s (charge (setFlags (writeR8 o v s) z n h c) m 0) :=
  operandWritten_writeR8 o v (fun r => by cases r <;> rfl) ((same_setFlags _ z n h c).trans (same_charge _ m 0))

/-- The accesses of INC r8 and DEC r8: the operand at `(HL)` is read and written (70_reset_and_hazards.md R397). -/
theorem incDec_tCycles (o : R8) : (1 + if o = .atHl then 2 else 0) * 4 + 0 * 4 = if o = .atHl then 12 else 4 := by
  split <;> rfl

/-- Settles O25: the operand read is written back one up or one down, then the flags. -/
theorem incDecByteRuns : Obligations.IncDecByteRuns := by
  refine ⟨fun i o s hi => ?_, fun i o s hi => ?_⟩
  · have h : (inc8 (readR8 o s).1 (flagC s)).h = decide ((readR8 o s).1.toNat % 16 = 0x0F) :=
      decide_eq_decide.2 (lowNibble_eq_iff _ 0x0F)
    refine ⟨incR8 o s, (readR8 o s).1 + 1, completes_of_form hi rfl nofun (incDec_tCycles o), BitVec.toNat_add _ 1,
      operandWritten_charge_setFlags o _ _ _ _ _ _ _, ?_⟩
    rw [← h]
    exact flagsAre_charge_setFlags _ _ _ _ _ _ 0
  · have h : (dec8 (readR8 o s).1 (flagC s)).h = decide ((readR8 o s).1.toNat % 16 = 0x00) :=
      decide_eq_decide.2 (lowNibble_eq_iff _ 0x00)
    refine ⟨decR8 o s, (readR8 o s).1 - 1, completes_of_form hi rfl nofun (incDec_tCycles o), by bv_omega,
      operandWritten_charge_setFlags o _ _ _ _ _ _ _, ?_⟩
    rw [← h]
    exact flagsAre_charge_setFlags _ _ _ _ _ _ 0

/-! ### CPL, SCF, CCF -/

/-- Settles O28: each writes all four flags, and CPL A before them. -/
theorem flagInstructionsRun : Obligations.FlagInstructionsRun := by
  intro i s
  refine ⟨fun hi => ⟨cplA s, completes_of_form hi rfl nofun rfl, ?_, rfl, flagsAre_charge_setFlags _ _ _ _ _ 1 0⟩,
    fun hi => ⟨scfF s, completes_of_form hi rfl nofun rfl, ?_, rfl, flagsAre_charge_setFlags _ _ _ _ _ 1 0⟩,
    fun hi => ⟨ccfF s, completes_of_form hi rfl nofun rfl, ?_, rfl, flagsAre_charge_setFlags _ _ _ _ _ 1 0⟩⟩
  · exact ((same_setA s _).trans (same_setFlags _ _ _ _ _)).trans (same_charge _ 1 0)
  · exact (same_setFlags s _ _ _ _).trans (same_charge _ 1 0)
  · exact (same_setFlags s _ _ _ _).trans (same_charge _ 1 0)

/-! ### DAA -/

/-- DAA's intermediate in add mode: the two adjustments that the flags and the unadjusted A ask for. Where the low
nibble is not adjusted it is at most 9, so 0x9F and 0x99 part the values alike (41_alu8.md R192). -/
theorem daaAdd_eq (a : Nat) (h c : Bool) :
    daaAdd a h c =
      (a + (if h = true ∨ a % 16 > 9 then 0x06 else 0) + (if c = true ∨ a > 0x99 then 0x60 else 0) : Nat) := by
  have nibble : (h = true ∨ (a : Int) % 16 > 9) ↔ (h = true ∨ a % 16 > 9) := or_congr Iff.rfl (by omega)
  have low : daaAddLow a h = (a + if h = true ∨ a % 16 > 9 then 0x06 else 0 : Nat) := by
    simp only [daaAddLow, Bool.or_eq_true, decide_eq_true_eq, nibble]
    split <;> rfl
  have high : daaAddLow a h > 0x9F ↔ a > 0x99 := by
    rw [low]
    split <;> omega
  simp only [daaAdd, Bool.or_eq_true, decide_eq_true_eq, high]
  rw [low]
  split <;> rfl

/-- DAA in add mode: A and C as the algorithm that tests the unadjusted A first gives them (41_alu8.md R192). -/
theorem daa8_add (a : Byte) {n : Bool} (hn : n = false) (h c : Bool) :
    (daa8 a n h c).res.toNat =
        (a.toNat + (if h = true ∨ a.toNat % 16 > 9 then 0x06 else 0) +
          (if c = true ∨ a.toNat > 0x99 then 0x60 else 0)) % 256 ∧
      (daa8 a n h c).c = (c || decide (a.toNat > 0x99)) := by
  subst hn
  have res : ((daa8 a false h c).res.toNat : Int) = daaAdd a.toNat h c % 256 := ofInt_byte_toNat _
  have carry : (daa8 a false h c).c = (c || decide (daaAdd a.toNat h c > 0xFF)) := rfl
  rw [daaAdd_eq] at res carry
  refine ⟨by omega, carry.trans ?_⟩
  cases c with
  | true => rfl
  | false =>
    have ha := a.isLt
    rw [Bool.false_or, Bool.false_or, decide_eq_decide]
    split <;> split <;> omega

/-- DAA's intermediate in subtract mode and the adjustments make up the old A modulo 256: masking in between does not
matter (41_alu8.md R192). -/
theorem daaSub_mod (a : Nat) (h c : Bool) :
    (daaSub a h c + (if h then 6 else 0 : Nat) + (if c then 0x60 else 0 : Nat)) % 256 = a % 256 := by
  cases h <;> cases c <;> simp only [daaSub, daaSubLow, Bool.false_eq_true, if_true, if_false] <;> omega

/-- DAA in subtract mode: the new A and the adjustments make up the old A, and C stays (41_alu8.md R192). -/
theorem daa8_sub (a : Byte) {n : Bool} (hn : n = true) (h c : Bool) :
    ((daa8 a n h c).res.toNat + (if h then 6 else 0) + (if c then 0x60 else 0)) % 256 = a.toNat ∧
      (daa8 a n h c).c = c := by
  subst hn
  have res : ((daa8 a true h c).res.toNat : Int) = daaSub a.toNat h c % 256 := ofInt_byte_toNat _
  have adjusted := daaSub_mod a.toNat h c
  have ha := a.isLt
  exact ⟨by omega, Bool.or_false c⟩

/-- Settles O26: the two modes of the adjustment. -/
theorem daaRuns : Obligations.DaaRuns := by
  intro i s hi
  obtain ⟨hz, hn, hh, hc⟩ : FlagsAre (daaA s) _ _ _ _ := flagsAre_charge_setFlags _ _ _ _ _ 1 0
  refine ⟨daaA s, completes_of_form hi rfl nofun rfl,
    ((same_setA s _).trans (same_setFlags _ _ _ _ _)).trans (same_charge _ 1 0), fun mode => ?_, fun mode => ?_,
    hz, hn, hh⟩
  · obtain ⟨res, carry⟩ := daa8_add s.regs.a mode (flagH s) (flagC s)
    exact ⟨res, hc.trans carry⟩
  · obtain ⟨res, carry⟩ := daa8_sub s.regs.a mode (flagH s) (flagC s)
    exact ⟨res, hc.trans carry⟩

/-! ### Decimal arithmetic -/

theorem bcd_toNat {n : Nat} (h : n < 100) : (bcd n).toNat = n / 10 * 16 + n % 10 := by
  rw [bcd, BitVec.toNat_ofNat]
  omega

section

variable {x y k : Nat} (hx : x < 100) (hy : y < 100) (hk : k ≤ 1)

include hx hy hk

/-- The low digit of a sum of packed numbers is adjusted exactly where the units carry. -/
theorem bcd_add_units :
    ((bcd x).toNat % 16 + (bcd y).toNat % 16 + k > 0x0F ∨ ((bcd x).toNat + (bcd y).toNat + k) % 256 % 16 > 9) ↔
      x % 10 + y % 10 + k ≥ 10 := by
  rw [bcd_toNat hx, bcd_toNat hy]
  omega

/-- The high digit of a sum of packed numbers is adjusted exactly where the sum carries out of two digits. -/
theorem bcd_add_tens :
    ((bcd x).toNat + (bcd y).toNat + k > 0xFF ∨ ((bcd x).toNat + (bcd y).toNat + k) % 256 > 0x99) ↔
      x + y + k ≥ 100 := by
  rw [bcd_toNat hx, bcd_toNat hy]
  obtain small | large := Nat.lt_or_ge (x / 10 + y / 10) 10
  · have fits : x / 10 * 16 + x % 10 + (y / 10 * 16 + y % 10) + k < 256 := by omega
    rw [Nat.mod_eq_of_lt fits]
    omega
  · omega

/-- The sum of packed numbers, each digit adjusted where it carries, is the packed sum. -/
theorem bcd_add_adjusted :
    (((bcd x).toNat + (bcd y).toNat + k) % 256 + (if x % 10 + y % 10 + k ≥ 10 then 0x06 else 0) +
        (if x + y + k ≥ 100 then 0x60 else 0)) % 256 =
      (bcd ((x + y + k) % 100)).toNat := by
  rw [bcd_toNat hx, bcd_toNat hy, bcd_toNat (Nat.mod_lt _ (by decide))]
  split <;> split <;> omega

/-- The low nibbles borrow exactly where the units do. -/
theorem bcd_sub_units : (bcd x).toNat % 16 < (bcd y).toNat % 16 + k ↔ x % 10 < y % 10 + k := by
  rw [bcd_toNat hx, bcd_toNat hy]
  omega

/-- The packed numbers borrow exactly where the numbers do. -/
theorem bcd_sub_tens : (bcd x).toNat < (bcd y).toNat + k ↔ x < y + k := by
  rw [bcd_toNat hx, bcd_toNat hy]
  omega

/-- The difference of packed numbers, each digit adjusted where it borrows, is the packed difference. -/
theorem bcd_sub_adjusted {d : Nat} {r : Byte} (hd : (d + (bcd y).toNat + k) % 256 = (bcd x).toNat)
    (hr : (r.toNat + (if x % 10 < y % 10 + k then 6 else 0) + (if x < y + k then 0x60 else 0)) % 256 = d) :
    r = bcd ((x + 100 - y - k) % 100) := by
  have small := r.isLt
  apply BitVec.eq_of_toNat_eq
  rw [bcd_toNat hx, bcd_toNat hy] at hd
  rw [bcd_toNat (Nat.mod_lt _ (by decide))]
  split at hr <;> split at hr <;> omega

end

/-- Settles O27: DAA adjusts a digit of the sum where it carries, and a digit of the difference where it borrows. -/
theorem bcdArithmetic : Obligations.BcdArithmetic := by
  intro s x y hx hy hs
  have hk := Bool.toNat_le (flagC s)
  refine ⟨?_, ?_⟩
  · obtain ⟨t, ⟨runs, -⟩, ⟨sum, -, hn, hh, hc⟩, -⟩ := addRuns.2 (.adcAD8 (bcd y)) .adc (bcd y) s (.inr rfl) rfl
    obtain ⟨u, ⟨adjusts, -⟩, -, add, -, -⟩ := daaRuns .daa t rfl
    obtain ⟨res, carry⟩ := add hn
    simp only [hs, decide_true, Bool.true_and] at sum hh hc
    simp only [hh, hc, sum, decide_eq_true_eq, bcd_add_units hx hy hk, bcd_add_tens hx hy hk,
      bcd_add_adjusted hx hy hk, ← Bool.decide_or] at res carry
    exact ⟨t, u, runs, adjusts, BitVec.eq_of_toNat_eq res, carry⟩
  · obtain ⟨t, ⟨runs, -⟩, ⟨-, hn, hh, hc⟩, difference, -, -⟩ :=
      subRuns.2 (.sbcAD8 (bcd y)) .sbc (bcd y) s (.inr (.inl rfl)) rfl
    obtain ⟨u, ⟨adjusts, -⟩, -, -, sub, -⟩ := daaRuns .daa t rfl
    obtain ⟨res, carry⟩ := sub hn
    have hd := difference nofun
    simp only [hs, decide_true, Bool.true_and, bcd_sub_units hx hy hk, bcd_sub_tens hx hy hk] at hd hh hc
    simp only [hh, hc, decide_eq_true_eq] at res
    exact ⟨t, u, runs, adjusts, bcd_sub_adjusted hx hy hk hd res, carry.trans hc⟩

end Sys2Proof.Machine

namespace Sys2Proof.Machine

/-! ### 16-bit arithmetic -/

/-- The low `k` bits of a word, by a mask, are its value modulo `2 ^ k`. -/
theorem and_lowMask_toNat (v : Word) {m : Word} {k : Nat} (hm : m.toNat = 2 ^ k - 1) :
    (v &&& m).toNat = v.toNat % 2 ^ k := by
  rw [BitVec.toNat_and, hm, Nat.and_two_pow_sub_one_eq_mod]

/-- H of a 16-bit sum is the carry out of bit 11 (42_alu16.md R213). -/
theorem add16_h (a b : Word) : (add16 a b).h = decide (a.toNat % 4096 + b.toNat % 4096 > 0x0FFF) := by
  simp only [add16, and_lowMask_toNat (k := 12) (m := 0x0FFF) _ rfl, Nat.reducePow]

/-- The displacement is added as a signed number, modulo 65536 (42_alu16.md R215). -/
theorem addSpE_res (sp : Word) (e : Byte) : (addSpE sp e).res = BitVec.ofInt 16 (sp.toNat + e.toInt) := by
  rw [BitVec.ofInt_add, BitVec.ofInt_natCast, BitVec.ofNat_toNat, BitVec.setWidth_eq]
  rfl

/-- H is the carry out of bit 3 of the low bytes' unsigned sum (42_alu16.md R215). -/
theorem addSpE_h (sp : Word) (e : Byte) : (addSpE sp e).h = decide (sp.toNat % 16 + e.toNat % 16 > 0x0F) := by
  simp only [addSpE, and_lowMask_toNat (k := 4) (m := 0x000F) _ rfl, lowNibble_toNat, Nat.reducePow]

/-- C is the carry out of the low bytes' unsigned sum (42_alu16.md R215). -/
theorem addSpE_c (sp : Word) (e : Byte) : (addSpE sp e).c = decide (sp.toNat % 256 + e.toNat > 0xFF) := by
  simp only [addSpE, and_lowMask_toNat (k := 8) (m := 0x00FF) _ rfl, Nat.reducePow]

/-- A pair goes to its new value and the cost is recorded: nothing else is written, and F stays (42_alu16.md R210). -/
theorem charge_writeR16 (r : R16) (v : Word) (s : State) (n k : Nat) :
    readR16 r (charge (writeR16 r v s) n k) = v ∧ SameButRegs s (charge (writeR16 r v s) n k) ∧
      (charge (writeR16 r v s) n k).regs.f = s.regs.f := by
  have charged : readR16 r (charge (writeR16 r v s) n k) = readR16 r (writeR16 r v s) := by cases r <;> rfl
  exact ⟨charged.trans (readR16_writeR16 s r v), (same_writeR16 s r v).trans (same_charge _ n k), writeR16_f r v s⟩

/-- Settles O29: the pair read is written back one up or one down. -/
theorem incDecWordRuns : Obligations.IncDecWordRuns := by
  refine ⟨fun i r s hi => ?_, fun i r s hi => ?_⟩
  · obtain ⟨read, kept⟩ := charge_writeR16 r (readR16 r s + 1) s 1 1
    exact ⟨incR16 r s, completes_of_form hi rfl nofun rfl,
      (congrArg BitVec.toNat read).trans (BitVec.toNat_add _ 1), kept⟩
  · obtain ⟨read, kept⟩ : readR16 r (decR16 r s) = readR16 r s - 1 ∧ _ := charge_writeR16 r (readR16 r s - 1) s 1 1
    exact ⟨decR16 r s, completes_of_form hi rfl nofun rfl, by bv_omega, kept⟩

/-- HL and then the flags are written and the cost is recorded: nothing else is (42_alu16.md R214, R217). -/
theorem charge_setFlags_setHl (x : Alu16Result) (z : Bool) (s : State) (n k : Nat) :
    SameButRegs s (charge (setFlags (setHl s x.res) z false x.h x.c) n k) ∧
      getHl (charge (setFlags (setHl s x.res) z false x.h x.c) n k) = x.res ∧
      FlagsAre (charge (setFlags (setHl s x.res) z false x.h x.c) n k) z false x.h x.c :=
  ⟨((same_setHl s _).trans (same_setFlags _ _ _ _ _)).trans (same_charge _ n k), getHl_setHl s _,
    flagsAre_charge_setFlags _ _ _ _ _ n k⟩

/-- Settles O30: HL and the flags are what `add16` answers, and Z is written as it was. -/
theorem addHlRuns : Obligations.AddHlRuns := by
  intro i r s hi
  obtain ⟨same, sum, flags⟩ := charge_setFlags_setHl (add16 (getHl s) (readR16 r s)) (flagZ s) s 1 1
  refine ⟨addHlR16 r s, completes_of_form hi rfl nofun rfl, same,
    (congrArg BitVec.toNat sum).trans (BitVec.toNat_ofNat _ 16), ?_⟩
  rw [← add16_h]
  exact flags

/-- Settles O31: SP or HL and the flags are what `addSpE` answers. -/
theorem spOffsetRuns : Obligations.SpOffsetRuns := by
  intro i e s
  rw [← addSpE_res, ← addSpE_h, ← addSpE_c]
  refine ⟨fun hi => ?_, fun hi => ?_⟩
  · exact ⟨addSpImm e s, completes_of_form hi rfl nofun rfl,
      ((same_setSp s _).trans (same_setFlags _ _ _ _ _)).trans (same_charge _ 2 2), rfl,
      flagsAre_charge_setFlags _ _ _ _ _ 2 2⟩
  · obtain ⟨same, sum, flags⟩ := charge_setFlags_setHl (addSpE s.regs.sp e) false s 2 1
    exact ⟨ldHlSpE e s, completes_of_form hi rfl nofun rfl, same, sum, rfl, flags⟩

end Sys2Proof.Machine

namespace Sys2Proof.Machine

/-! ### Rotates and shifts -/

/-- A left shift that takes a bit in at bit 0: the low byte of the value with that bit after it. -/
theorem shiftLeft_or_ofBool (v : Byte) (b : Bool) :
    v <<< 1 ||| (BitVec.ofBool b).zeroExtend 8 = (v ++ BitVec.ofBool b).extractLsb' 0 8 := by
  ext i hi
  rw [BitVec.getElem_extractLsb', BitVec.getLsbD_append]
  cases i with
  | zero => simp
  | succ n => simp [BitVec.getLsbD_eq_getElem (Nat.lt_of_succ_lt hi)]

/-- A right shift that takes a bit in at bit 7: the high byte of the value with that bit before it. -/
theorem shiftRight_or_ofBool (v : Byte) (b : Bool) :
    v >>> 1 ||| (BitVec.ofBool b).zeroExtend 8 <<< 7 = (BitVec.ofBool b ++ v).extractLsb' 1 8 := by
  ext i hi
  rw [BitVec.getElem_extractLsb', BitVec.getLsbD_append]
  obtain rfl | h := Nat.eq_or_lt_of_le (Nat.le_of_lt_succ hi)
  · simp
  · simp [h, Nat.add_comm]

/-- Bit 7 at the place of bit 0 is what a rotate to the left takes in. -/
theorem ofBool_getLsbD_seven (v : Byte) : (BitVec.ofBool (v.getLsbD 7)).zeroExtend 8 = v >>> 7 := by
  ext i hi
  cases i with
  | zero => simp
  | succ n => simp [BitVec.getLsbD_of_ge v (7 + (n + 1)) (by omega)]

/-- Bit 0 at the place of bit 7 is what a rotate to the right takes in. -/
theorem ofBool_getLsbD_zero (v : Byte) : (BitVec.ofBool (v.getLsbD 0)).zeroExtend 8 <<< 7 = v <<< 7 := by
  ext i hi
  obtain rfl | h := Nat.eq_or_lt_of_le (Nat.le_of_lt_succ hi)
  · simp
  · simp [h]

/-- A right shift that keeps bit 7 is the arithmetic one (43_rotate_shift_bit.md R241). -/
theorem shiftRight_or_top (v : Byte) : v >>> 1 ||| v &&& 0x80 = v.sshiftRight 1 := by
  have top : (0x80 : Byte) = BitVec.twoPow 8 7 := rfl
  ext i hi
  rw [BitVec.getElem_sshiftRight]
  obtain rfl | h := Nat.eq_or_lt_of_le (Nat.le_of_lt_succ hi)
  · simp [BitVec.msb_eq_getLsbD_last]
  · simp [top, Nat.add_comm 1, Nat.add_lt_add_right h, h.ne]

/-- The low nibble moved up and the high nibble moved down change places (43_rotate_shift_bit.md R242). -/
theorem shiftLeft_or_shiftRight_nibbles (v : Byte) :
    (v &&& 0x0F) <<< 4 ||| v >>> 4 = v.extractLsb' 0 4 ++ v.extractLsb' 4 4 := by
  have low : (v &&& 0x0F).extractLsb' 0 4 = v.extractLsb' 0 4 :=
    (BitVec.extractLsb'_and).trans BitVec.and_allOnes
  calc (v &&& 0x0F) <<< 4 ||| v >>> 4
    _ = (v &&& 0x0F).extractLsb' 0 4 ++ 0#4 ||| 0#4 ++ v.extractLsb' 4 4 :=
      congrArg₂ (· ||| ·) (BitVec.shiftLeft_eq_concat_of_lt (by decide))
        (BitVec.ushiftRight_eq_extractLsb'_of_lt (by decide))
    _ = v.extractLsb' 0 4 ++ v.extractLsb' 4 4 :=
      BitVec.or_append.trans (by rw [BitVec.or_zero, BitVec.zero_or, low])

/-- Every kind answers as the spec words it (43_rotate_shift_bit.md R231 to R243). -/
theorem rotate8_outcome (k : RotOp) (v : Byte) (cin : Bool) :
    RotateOutcome k v cin (rotate8 k v cin).1 (rotate8 k v cin).2 := by
  cases k with
  | rlc => exact ⟨congrArg (v <<< 1 ||| ·) (ofBool_getLsbD_seven v), rfl⟩
  | rrc => exact ⟨congrArg (v >>> 1 ||| ·) (ofBool_getLsbD_zero v), rfl⟩
  | rl => exact ⟨shiftLeft_or_ofBool v cin, rfl⟩
  | rr => exact ⟨shiftRight_or_ofBool v cin, rfl⟩
  | sla => exact ⟨by rw [rotate8, BitVec.toNat_shiftLeft, Nat.shiftLeft_eq], rfl⟩
  | sra => exact ⟨shiftRight_or_top v, rfl⟩
  | swap => exact ⟨shiftLeft_or_shiftRight_nibbles v, rfl⟩
  | srl => exact ⟨by rw [rotate8, BitVec.toNat_ushiftRight, Nat.shiftRight_eq_div_pow], rfl⟩

/-! ### Single bits -/

/-- Bit `k` of the mask is set exactly where `k` is its bit. -/
theorem getLsbD_bitMask (b : BitVec 3) (k : Nat) : (bitMask b).getLsbD k = decide (k = b.toNat) := by
  have hb : b.toNat < 8 := b.isLt
  have mask : bitMask b = BitVec.twoPow 8 b.toNat := rfl
  simp [mask, BitVec.getLsbD_twoPow, hb, eq_comm]

theorem getLsbD_resBit (v : Byte) (b : BitVec 3) {k : Nat} (hk : k < 8) :
    (resBit v b).getLsbD k = (decide (k ≠ b.toNat) && v.getLsbD k) := by
  rw [resBit, BitVec.getLsbD_and, BitVec.getLsbD_not, getLsbD_bitMask, decide_eq_true hk, Bool.true_and, Bool.and_comm,
    decide_not]

theorem getLsbD_setBit (v : Byte) (b : BitVec 3) (k : Nat) :
    (setBit v b).getLsbD k = (decide (k = b.toNat) || v.getLsbD k) := by
  rw [setBit, BitVec.getLsbD_or, getLsbD_bitMask, Bool.or_comm]

/-- What an instruction with an operand costs: the bytes fetched, and the accesses to the byte at `(HL)`
(70_reset_and_hazards.md R397). -/
theorem operand_tCycles (o : R8) (n k : Nat) :
    (n + if o = .atHl then k else 0) * 4 + 0 * 4 = if o = .atHl then (n + k) * 4 else n * 4 := by
  split <;> rfl

/-- Z stays under `ACC_ROTATE_Z = Unchanged` and is 0 under `Clear` (43_rotate_shift_bit.md R230). -/
theorem accRotateZ_eq (s : State) : accRotateZ s = (decide (s.params.accRotateZ = .unchanged) && flagZ s) := by
  unfold accRotateZ
  cases s.params.accRotateZ <;> rfl

/-- Settles O32: A and C are what `rotate8` answers of A, and Z is the parameter's. -/
theorem accumulatorRotatesRun : Obligations.AccumulatorRotatesRun := by
  intro i k s hi
  refine ⟨rotateA k s, _, completes_of_form hi rfl nofun rfl, ?_, rotate8_outcome k s.regs.a (flagC s), ?_⟩
  · exact ((same_setA s _).trans (same_setFlags _ _ _ _ _)).trans (same_charge _ 1 0)
  · rw [← accRotateZ_eq]
    exact flagsAre_charge_setFlags _ _ _ _ _ 1 0

/-- Settles O33: the operand read is written back as `rotate8` answers, then the flags. -/
theorem rotatesAndShiftsRun : Obligations.RotatesAndShiftsRun := by
  intro i k o s hi
  exact ⟨rotateR8 k o s, _, _, completes_of_form hi rfl nofun (operand_tCycles o 2 2),
    rotate8_outcome k (readR8 o s).1 (flagC s), operandWritten_charge_setFlags o _ _ _ _ _ _ _,
    flagsAre_charge_setFlags _ _ _ _ _ _ 0⟩

/-- Settles O34: the operand is read and the flags are written; the form writes no register. -/
theorem bitTestRuns : Obligations.BitTestRuns := by
  intro i n o s hi
  have leaves : Leaves (formWrites (.bit n o)) s (bitTestR8 n o s) := leaves_formEffect (f := .bit n o) s nofun
  exact ⟨bitTestR8 n o s, completes_of_form hi rfl nofun (operand_tCycles o 2 1),
    (same_setFlags _ _ _ _ _).trans (same_charge _ _ 0), fun r => leaves.regs r List.not_mem_nil,
    flagsAre_charge_setFlags _ _ _ _ _ _ 0⟩

/-- A byte written back to the operand it was read from. -/
theorem charge_writeR8_readR8 (o : R8) (v : Byte) (s : State) (n : Nat) :
    OperandWritten o v (readR8 o s).2 (charge (writeR8 o v (readR8 o s).2) n 0) ∧
      (charge (writeR8 o v (readR8 o s).2) n 0).regs.f = s.regs.f := by
  obtain ⟨written, flags⟩ := charge_writeR8 o v (readR8 o s).2 n
  exact ⟨written, flags.trans (by rw [readR8_regs])⟩

/-- Settles O35: the operand read is written back with its one bit cleared or set. -/
theorem resAndSetRun : Obligations.ResAndSetRun := by
  refine ⟨fun i n o s hi => ?_, fun i n o s hi => ?_⟩
  · obtain ⟨written, flags⟩ := charge_writeR8_readR8 o (resBit (readR8 o s).1 n) s (r8Accesses o 2 4)
    exact ⟨bitResR8 n o s, _, completes_of_form hi rfl nofun (operand_tCycles o 2 2), written, flags,
      fun k hk => getLsbD_resBit _ n hk⟩
  · obtain ⟨written, flags⟩ := charge_writeR8_readR8 o (setBit (readR8 o s).1 n) s (r8Accesses o 2 4)
    exact ⟨bitSetR8 n o s, _, completes_of_form hi rfl nofun (operand_tCycles o 2 2), written, flags,
      fun k _ => getLsbD_setBit _ n k⟩

end Sys2Proof.Machine

namespace Sys2Proof.Machine

/-! ### Jumps -/

/-- An instruction whose form ends by recording its cost, with the cost written out (70_reset_and_hazards.md R397). -/
theorem exec_charged {i : Instr} {f : Form} {s u : State} {n k c : Nat} (hi : i.form = f) (hs : isStop f = false)
    (effect : formEffect f s = charge u n k) (cost : tCycles u.params n k = c) :
    exec i s = .next { u with cost := c } := by
  rw [exec_of_form hi hs, effect, ← cost]
  rfl

/-- The cost without internal M-cycles. -/
theorem tCycles_accesses (p : Params) (n : Nat) : tCycles p n 0 = n * p.memT := by
  rw [tCycles, Nat.zero_mul, Nat.add_zero]

/-- The cost with one internal M-cycle, that of a transfer of control. -/
theorem tCycles_transfer (p : Params) (n : Nat) : tCycles p n 1 = n * p.memT + p.mT := by
  rw [tCycles, Nat.one_mul]

/-- A relative target is PC plus the signed displacement, modulo 65536 (44_control.md R274). -/
theorem relativeTarget (pc : Addr) (e : Byte) : pc + sext16 e = BitVec.ofInt 16 (pc.toNat + e.toInt) := addSpE_res pc e

/-- Settles O37: each form sets PC, or its condition fails and it sets nothing. -/
theorem jumpsRun : Obligations.JumpsRun := by
  intro i s
  simp only [← relativeTarget]
  refine ⟨fun a hi => exec_charged hi rfl rfl (tCycles_transfer _ 3), fun cc a hi => ?_, fun hi => ?_,
    fun e hi => exec_charged hi rfl rfl (tCycles_transfer _ 2), fun cc e hi => ?_, rfl, rfl, rfl, rfl⟩
  · split
    next taken => exact exec_charged hi rfl (if_pos taken) (tCycles_transfer _ 3)
    next untaken => exact exec_charged hi rfl (if_neg untaken) (tCycles_accesses _ 3)
  · exact exec_charged hi rfl rfl ((tCycles_accesses _ 1).trans (Nat.one_mul _))
  · split
    next taken => exact exec_charged hi rfl (if_pos taken) (tCycles_transfer _ 2)
    next untaken => exact exec_charged hi rfl (if_neg untaken) (tCycles_accesses _ 2)

/-! ### Calls -/

/-- The state in which a taken call of the target `a` ends, after `n` byte accesses (44_control.md R276, R281). -/
def called (s : State) (a : Addr) (n : Nat) : State := charge (setPc (push16 s s.regs.pc) a) n 1

/-- The high byte of a pushed word stands just below the old SP (40_load_store.md R150). -/
theorem pushed_high_addr (sp : Word) : sp - 2 + 1 = sp - 1 := by
  bv_omega

/-- A call goes to its target and leaves PC's two bytes below SP, low byte lower (44_control.md R276; 40_load_store.md
R150). -/
theorem called_facts (s : State) (a : Addr) (n : Nat) :
    (called s a n).regs.pc = a ∧ (called s a n).regs.sp = s.regs.sp - 2 ∧
      SameButRegs
        (writeByte (writeByte s (s.regs.sp - 2) (loByte s.regs.pc)) (s.regs.sp - 1) (hiByte s.regs.pc))
        (called s a n) := by
  refine ⟨rfl, push16_sp s s.regs.pc, ?_⟩
  rw [← pushed_high_addr]
  exact ((push16_same s s.regs.pc).trans (same_setPc _ a)).trans (same_charge _ n 1)

/-- RST goes to 8 times its number (44_control.md R281). -/
theorem rstTarget_toNat (n : BitVec 3) : (rstTarget n).toNat = n.toNat * 8 := by
  rw [rstTarget, BitVec.toNat_ofNat]
  omega

/-- A CALL cc whose condition holds is a CALL (44_control.md R277). -/
theorem callAbsCc_taken {cc : Cc} {s : State} (hc : condHolds cc s = true) (a : Addr) :
    callAbsCc cc a s = callAbs a s := if_pos hc

/-- Settles O38: a taken call is `called`, and an untaken one records its cost alone. -/
theorem callsRun : Obligations.CallsRun := by
  intro i s
  refine ⟨fun a hi => ?_, fun cc a hi taken => ?_, fun cc a hi untaken => ?_, fun n hi => ?_⟩
  · exact ⟨callAbs a s, completes_of_form hi rfl nofun rfl, called_facts s a 5⟩
  · have completes : Completes i s (callAbsCc cc a s) 24 :=
      completes_of_form hi rfl nofun (by simp [formLength, formData, formInternal, taken])
    exact ⟨callAbs a s, callAbsCc_taken taken a ▸ completes, called_facts s a 5⟩
  · exact exec_charged hi rfl (if_neg (Bool.eq_false_iff.1 untaken)) (tCycles_accesses _ 3)
  · obtain ⟨target, kept⟩ := called_facts s (rstTarget n) 3
    exact ⟨restart n s, completes_of_form hi rfl nofun rfl, rstTarget_toNat n, kept⟩

/-- Every taken call, a restart among them, ends in `called` (44_control.md R276, R277, R281). -/
theorem exec_takenCall {i : Instr} {s : State}
    (h : (∃ a, i.form = .call a) ∨ (∃ cc a, i.form = .callCc cc a ∧ condHolds cc s = true) ∨ ∃ n, i.form = .rst n) :
    ∃ a n, exec i s = .next (called s a n) := by
  obtain ⟨a, hi⟩ | ⟨cc, a, hi, taken⟩ | ⟨n, hi⟩ := h
  · exact ⟨a, 5, exec_of_form hi rfl s⟩
  · exact ⟨a, 5, (exec_of_form hi rfl s).trans (congrArg _ (callAbsCc_taken taken a))⟩
  · exact ⟨rstTarget n, 3, exec_of_form hi rfl s⟩

/-! ### Returns -/

/-- The state in which a taken RET or RET cc ends, after `n` byte accesses and `k` internal M-cycles (44_control.md
R278, R279). -/
def returned (s : State) (n k : Nat) : State := charge (setPc (pop16 s).2 (pop16 s).1) n k

/-- A return goes to the word at SP, low byte lower, with SP up by 2 (44_control.md R278; 40_load_store.md R151). -/
theorem returned_facts (s : State) (n k : Nat) :
    (returned s n k).regs.pc = (pop16 s).1 ∧ (returned s n k).regs.sp = s.regs.sp + 2 ∧
      SameButRegs (readByte (readByte s s.regs.sp).2 (s.regs.sp + 1)).2 (returned s n k) :=
  ⟨rfl, pop16_sp s, ((pop16_same s).trans (same_setPc _ _)).trans (same_charge _ n k)⟩

/-- A RET cc whose condition holds takes one internal M-cycle more than a RET (44_control.md R279). -/
theorem returnCc_taken {cc : Cc} {s : State} (hc : condHolds cc s = true) : returnCc cc s = returned s 3 2 := if_pos hc

/-- RETI returns as RET does and writes the engine besides (44_control.md R280). -/
theorem returnEnable_same (s : State) :
    SameButRegs
      { (readByte (readByte s s.regs.sp).2 (s.regs.sp + 1)).2 with
        engine := { s.engine with ime := true, imeScheduled := false } }
      (returnEnable s) := by
  obtain ⟨-, engine, -⟩ := returnFromInterrupt_facts s
  obtain ⟨-, -, same⟩ := returned_facts s 3 1
  exact ⟨engine, same.irq, same.timer, same.bootDisabled, same.mem, same.bootRom,
    same.collab, same.params, same.totalCycles, same.opAddr⟩

/-- Settles O39: a taken return is `returned`, RETI writes the engine besides, and an untaken return records its cost
alone. -/
theorem returnsRun : Obligations.ReturnsRun := by
  intro i s
  refine ⟨fun hi => ?_, fun cc hi taken => ?_, fun cc hi untaken => ?_, fun hi => ?_⟩
  · exact ⟨returned s 3 1, completes_of_form hi rfl nofun rfl, returned_facts s 3 1⟩
  · have completes : Completes i s (returnCc cc s) 20 :=
      completes_of_form hi rfl nofun (by simp [formLength, formData, formInternal, taken])
    exact ⟨returned s 3 2, returnCc_taken taken ▸ completes, returned_facts s 3 2⟩
  · have cost : tCycles s.params 1 1 = s.params.memT + s.params.mT := by rw [tCycles_transfer, Nat.one_mul]
    exact exec_charged hi rfl (if_neg (Bool.eq_false_iff.1 untaken)) cost
  · exact ⟨returnEnable s, completes_of_form hi rfl nofun rfl, rfl, pop16_sp s, returnEnable_same s⟩

/-- Every taken return goes to the word popped, with SP up by 2 (44_control.md R278 to R280). -/
theorem exec_takenReturn {j : Instr} {s : State}
    (h : j.form = .ret ∨ j.form = .reti ∨ ∃ cc, j.form = .retCc cc ∧ condHolds cc s = true) :
    ∃ u, exec j s = .next u ∧ u.regs.pc = (pop16 s).1 ∧ u.regs.sp = s.regs.sp + 2 := by
  obtain hj | hj | ⟨cc, hj, taken⟩ := h
  · exact ⟨returned s 3 1, exec_of_form hj rfl s, rfl, pop16_sp s⟩
  · exact ⟨returnEnable s, exec_of_form hj rfl s, rfl, pop16_sp s⟩
  · exact ⟨returned s 3 2, (exec_of_form hj rfl s).trans (congrArg _ (returnCc_taken taken)), rfl, pop16_sp s⟩

/-! ### A call and its return -/

/-- A condition depends on F alone (44_control.md R270). -/
theorem condHolds_congr {s t : State} (hf : t.regs.f = s.regs.f) (cc : Cc) : condHolds cc t = condHolds cc s := by
  cases cc <;> simp only [condHolds, flagZ, flagC, hf]

/-- Settles O40: the call pushes PC and keeps F, so the return is still taken and pops what the call pushed. -/
theorem callThenReturnComesBack : Obligations.CallThenReturnComesBack := by
  intro i j s hi hj hw hlo hhi
  obtain ⟨a, n, call⟩ := exec_takenCall hi
  obtain ⟨-, down, -⟩ := called_facts s a n
  have cond (cc : Cc) : condHolds cc (called s a n) = condHolds cc s := condHolds_congr (push16_f s s.regs.pc) cc
  obtain ⟨u, ret, pc, up⟩ := exec_takenReturn (j := j) (s := called s a n) (by simpa only [cond] using hj)
  have popped : (pop16 (called s a n)).1 = s.regs.pc :=
    pop16_of_push16 hw hlo ((pushed_high_addr s.regs.sp).symm ▸ hhi) rfl (keeps_push16 s _).videoMode down
  refine ⟨called s a n, u, call, ret, pc.trans popped, ?_⟩
  rw [up, down, BitVec.sub_add_cancel]

end Sys2Proof.Machine

namespace Sys2Proof.Machine

/-! ### The escape -/

/-- The secondary operation of a byte is the effect of the form its fields select (30_encoding.md R112, 45_system.md
R306). -/
theorem formEffect_secondaryForm (cb : Byte) (s : State) : formEffect (secondaryForm cb) s = secondary cb s := by
  unfold secondaryForm secondary
  dsimp only
  generalize (cb.extractLsb' 6 2).toNat = x
  match x with
  | 0 | 1 | 2 | _ + 3 => rfl

/-- No secondary byte selects STOP (30_encoding.md R112). -/
theorem isStop_secondaryForm (cb : Byte) : isStop (secondaryForm cb) = false := by
  unfold secondaryForm
  split <;> rfl

/-- Settles O36: both end in the secondary operation of the byte. -/
theorem prefixRunsSecondary : Obligations.PrefixRunsSecondary := by
  intro cb s
  refine ⟨secondary cb s, exec_of_form (f := .prefixCb cb) rfl rfl s, ?_⟩
  rw [exec_of_form (secondaryInstr_form cb) (isStop_secondaryForm cb), formEffect_secondaryForm]

/-! ### NOP, HALT, DI and EI -/

/-- The cost of an instruction of one byte without data accesses: the fetch alone (70_reset_and_hazards.md R397). -/
theorem tCycles_fetch (p : Params) : tCycles p 1 0 = p.memT := by
  rw [tCycles_accesses, Nat.one_mul]

section

variable {s : State}

/-- HALT halts with IME on, or with nothing pending (45_system.md R301). -/
theorem haltEngine_halts (h : s.engine.ime = true ∨ pendingMask s = 0) :
    haltEngine s = charge { s with engine := { s.engine with halted := true } } 1 0 := by
  unfold haltEngine
  by_cases ime : s.engine.ime = true
  · rw [if_pos ime]
  · rw [if_neg ime, if_pos (h.resolve_left ime)]

/-- HALT with IME off and a source pending does not halt; the halt bug is left where the device has it (45_system.md
R301). -/
theorem haltEngine_falls_through (ime : s.engine.ime = false) (pending : pendingMask s ≠ 0) :
    haltEngine s =
      if s.params.haltBug then charge { s with engine := { s.engine with haltBug := true } } 1 0 else charge s 1 0 := by
  rw [haltEngine, if_neg (Bool.eq_false_iff.1 ime), if_neg pending]

end

/-- Settles O41: the operation of each form, by HALT's cases, and then the cost of its fetch. -/
theorem nopHaltDiEiRun : Obligations.NopHaltDiEiRun := by
  intro i s
  refine ⟨fun hi => exec_charged hi rfl rfl (tCycles_fetch _),
    fun hi => ⟨fun halts => ?_, fun ime pending bug => ?_, fun ime pending noBug => ?_⟩,
    fun hi => exec_charged hi rfl rfl (tCycles_fetch _), fun hi => exec_charged hi rfl rfl (tCycles_fetch _)⟩
  · exact exec_charged hi rfl (haltEngine_halts halts) (tCycles_fetch _)
  · have effect := (haltEngine_falls_through ime pending).trans (if_pos bug)
    exact exec_charged hi rfl effect (tCycles_fetch _)
  · have effect := (haltEngine_falls_through ime pending).trans (if_neg (Bool.eq_false_iff.1 noBug))
    exact exec_charged hi rfl effect (tCycles_fetch _)

/-! ### STOP and the illegal opcodes -/

/-- Settles O42: STOP's form is refused whatever its byte. -/
theorem stopIsRefused : Obligations.StopIsRefused :=
  fun ignored s => exec_stop (i := .stop ignored) rfl s

/-- The 11 cells of the primary map that hold an illegal opcode (45_system.md R307). -/
theorem cell_illegal {op : Byte}
    (h : op ∈ [0xD3, 0xDB, 0xDD, 0xE3, 0xE4, 0xEB, 0xEC, 0xED, 0xF4, 0xFC, (0xFD : Byte)]) :
    (primaryCell op).form = .one (.illegal op) := by
  simp only [List.mem_cons, List.not_mem_nil, or_false] at h
  rcases h with rfl | rfl | rfl | rfl | rfl | rfl | rfl | rfl | rfl | rfl | rfl <;> rfl

/-- Settles O43: the effect is the lock and the cost of the fetch, and each cell takes no operand byte. -/
theorem illegalOpcodeLocks : Obligations.IllegalOpcodeLocks :=
  ⟨fun _ _ _ hi => exec_charged hi rfl rfl (tCycles_fetch _),
    fun _ rest hop => decode_form_one rest (cell_illegal hop)⟩

/-! ### Idle steps -/

/-- The CPU part of a locked engine, and of a halted one with nothing pending, is an idle slot (60_exceptions.md
R350). -/
theorem runCpu_idle {s : State} (h : s.engine.locked = true ∨ (s.engine.halted = true ∧ pendingMask s = 0)) :
    runCpu s = .next (charge s 0 1) := by
  by_cases locked : s.engine.locked = true
  · have part : cpuPart s = .locked := if_pos locked
    rw [runCpu, part]
  · obtain ⟨halted, nothing⟩ := h.resolve_left locked
    have part : cpuPart s = .halted := by simp [cpuPart, locked, halted, nothing]
    rw [runCpu, part]

/-- A step whose CPU part ends in a next state goes on with the advances from there (60_exceptions.md R350). -/
theorem step_of_runCpu {s t : State} (running : s.engine.refused = false) (cpu : runCpu (atStepStart s) = .next t) :
    step s = .next (advanceAll (currentInput s) t) := by
  rw [atStepStart] at cpu
  rw [step, runStep, if_neg (Bool.eq_false_iff.1 running), cpu]

/-- An idle slot records one M-cycle and changes nothing else (60_exceptions.md R350). -/
theorem charge_idle (s : State) : charge s 0 1 = { s with cost := s.params.mT } := by
  rw [charge, tCycles, Nat.zero_mul, Nat.zero_add, Nat.one_mul]

/-- Settles O50: the CPU part is an idle slot, and the advances leave what it left and add its cost to the total. -/
theorem idleSteps : Obligations.IdleSteps := by
  intro s s0 running idle
  have cpu : runCpu s0 = .next { s0 with cost := s.params.mT } := (runCpu_idle idle).trans (congrArg _ (charge_idle s0))
  obtain ⟨hregs, hengine, -, -, -, -, hcost, hie, htotal, -⟩ :=
    advanceAll_facts { s0 with cost := s.params.mT } (currentInput s)
  exact ⟨_, step_of_runCpu running cpu, rfl, hregs, hengine, hie, hcost, htotal⟩

end Sys2Proof.Machine

namespace Sys2Proof.Machine

/-! ### Interrupt service -/

/-- A pending source below which none is pending is the one selected (60_exceptions.md R333). -/
theorem lowestSource_eq {m : BitVec 5} {i : Fin 5} (set : m.getLsbD i.val = true)
    (below : ∀ k, k < i.val → m.getLsbD k = false) : lowestSource m = some i := by
  cases h : lowestSource m with
  | none => simp [lowestSource_none.1 h] at set
  | some j =>
    obtain ⟨jset, jbelow⟩ := lowestSource_some h
    rcases lt_trichotomy i.val j.val with lt | eq | gt
    · exact absurd ((jbelow i lt).symm.trans set) Bool.false_ne_true
    · rw [Fin.ext eq]
    · exact absurd ((below j gt).symm.trans jset) Bool.false_ne_true

/-- A source is pending when IE and IF both have its bit (60_exceptions.md R331). -/
theorem pendingMask_getLsbD (s : State) {k : Nat} (h : k < 5) :
    (pendingMask s).getLsbD k = (s.irq.ie.getLsbD k && s.irq.ifl.getLsbD k) := by
  simp [pendingMask, h]

/-- Service clears the request of its own source and no other (60_exceptions.md R333). -/
theorem clearRequest_getLsbD (s : State) (i : Fin 5) {k : Nat} (h : k < 5) :
    (clearRequest s i).irq.ifl.getLsbD k = (decide (k ≠ i.val) && s.irq.ifl.getLsbD k) := by
  have mask : (~~~((1 : BitVec 5) <<< i.val)).getLsbD k = decide (k ≠ i.val) := by
    revert i k
    decide
  rw [clearRequest, BitVec.getLsbD_and, mask, Bool.and_comm]

/-- The vector of a source is 8 bytes above that of the one before it (60_exceptions.md R330). -/
theorem vectorOf_toNat : ∀ i : Fin 5, (vectorOf i).toNat = 0x0040 + 8 * i.val := by
  decide

/-- The CPU part of an unlocked engine with IME set serves the source selected (60_exceptions.md R350). -/
theorem runCpu_service {s : State} {i : Fin 5} (unlocked : s.engine.locked = false) (ime : s.engine.ime = true)
    (selected : lowestSource (pendingMask s) = some i) : runCpu s = .next (serviceSource s i) := by
  have pending : pendingMask s ≠ 0 := fun none => by simp [lowestSource_none.2 none] at selected
  have part : cpuPart s = .service := by
    rw [cpuPart, if_neg (Bool.eq_false_iff.1 unlocked), if_pos (by rw [ime, decide_eq_true pending]; rfl)]
  rw [runCpu, part, serviceInterrupt, selected]

/-- The address service pushes: one less with the halt bug pending (60_exceptions.md R334). -/
def returnAddress (s : State) : Addr := if s.engine.haltBug then s.regs.pc - 1 else s.regs.pc

/-- The state in which service of a source pushes: its request, IME, the pending EI and the halt have ended
(60_exceptions.md R334). -/
def beforePush (s : State) (i : Fin 5) : State :=
  { s with
    irq := { s.irq with ifl := (clearRequest s i).irq.ifl }
    engine := { s.engine with ime := false, imeScheduled := false, halted := false, haltBug := false } }

theorem serviceSource_eq (s : State) (i : Fin 5) :
    serviceSource s i = charge (setPc (push16 (beforePush s i) (returnAddress s)) (vectorOf i)) 2 3 := rfl

/-- What service leaves is the push from that state, but for registers and the cost (60_exceptions.md R334). -/
theorem serviceSource_same (s : State) (i : Fin 5) :
    SameButRegs
      (writeByte (writeByte (beforePush s i) (s.regs.sp - 2) (loByte (returnAddress s))) (s.regs.sp - 1)
        (hiByte (returnAddress s)))
      (serviceSource s i) := by
  rw [serviceSource_eq, ← pushed_high_addr]
  exact ((push16_same (beforePush s i) (returnAddress s)).trans (same_setPc _ _)).trans (same_charge _ 2 3)

/-- Settles O48: the source is selected before the push; its service and then the advances are the step. -/
theorem interruptServiceRuns : Obligations.InterruptServiceRuns := by
  intro s n s0 ret running unlocked ime hn below enabled requested
  obtain ⟨i, rfl⟩ : ∃ i : Fin 5, i.val = n := ⟨⟨n, hn⟩, rfl⟩
  have pending : (pendingMask s0).getLsbD i.val = true := by rw [pendingMask_getLsbD s0 hn, enabled, requested]; rfl
  have selected : lowestSource (pendingMask s0) = some i :=
    lowestSource_eq pending fun k hk => (pendingMask_getLsbD s0 (hk.trans hn)).trans (below k hk)
  obtain ⟨regs, -, -, -, -, cost⟩ := serviceSource_facts s0 i
  have cpu : runCpu s0 = .next (serviceSource s0 i) := runCpu_service unlocked ime selected
  refine ⟨serviceSource s0 i, (clearRequest s0 i).irq.ifl, step_of_runCpu running cpu, ?_,
    congrArg Regs.sp regs, cost, fun r => ?_, by rw [regs]; rfl, fun k hk => clearRequest_getLsbD s0 i hk,
    serviceSource_same s0 i⟩
  · rw [regs]
    exact vectorOf_toNat i
  · cases r <;> simp only [regOf, regs] <;> rfl

/-- The handler's RETI pops what service pushed, on a stack in writable memory (60_exceptions.md R337). -/
theorem pop16_serviceSource {s : State} (hw : Memory.wf s.mem = true) (hlo : ramAt s (s.regs.sp - 2) = true)
    (hhi : ramAt s (s.regs.sp - 1) = true) (i : Fin 5) : (pop16 (serviceSource s i)).1 = returnAddress s := by
  obtain ⟨regs, -⟩ := serviceSource_facts s i
  exact pop16_of_push16 (s := beforePush s i) hw hlo ((pushed_high_addr s.regs.sp).symm ▸ hhi) rfl
    (keeps_serviceSource s i).videoMode (congrArg Regs.sp regs)

/-- Settles O49: RETI pops the word service pushed and sets IME. -/
theorem serviceThenRetiComesBack : Obligations.ServiceThenRetiComesBack := by
  intro s n hw hlo hhi
  obtain ⟨down, -⟩ := serviceSource_facts s n
  obtain ⟨back, engine, -⟩ := returnFromInterrupt_facts (serviceSource s n)
  refine ⟨returnEnable (serviceSource s n), exec_of_form (i := .reti) rfl rfl _, ?_, ?_, congrArg Engine.ime engine⟩
  · exact (congrArg Regs.pc back).trans (pop16_serviceSource hw hlo hhi n)
  · have up : (serviceSource s n).regs.sp + 2 = s.regs.sp := by
      rw [down]
      exact BitVec.sub_add_cancel s.regs.sp 2
    exact (congrArg Regs.sp back).trans up

end Sys2Proof.Machine

namespace Sys2Proof.Machine

/-! ### The timer in closed form -/

/-- `y` is `x` after `q` counts of TIMA: below 256 they add up, and past 0xFF each overflow restarts from TMA and
requests the Timer interrupt (60_exceptions.md R341). -/
def TimaCounts (q : Nat) (x y : Timer × BitVec 5) : Prop :=
  (x.1.tima.toNat + q ≤ 255 → y.1.tima.toNat = x.1.tima.toNat + q ∧ y.2 = x.2) ∧
    (255 < x.1.tima.toNat + q →
      y.1.tima.toNat = x.1.tma.toNat + (x.1.tima.toNat + q - 256) % (256 - x.1.tma.toNat) ∧ y.2 = x.2 ||| 0b00100)

theorem timaCounts_zero (x : Timer × BitVec 5) : TimaCounts 0 x x :=
  ⟨fun _ => ⟨rfl, rfl⟩, fun h => absurd h (by have := x.1.tima.isLt; omega)⟩

/-- A pass that overflows starts the count again from TMA. -/
theorem timaCounts_overflow {p q : Nat} {x y : Timer × BitVec 5} (full : x.1.tima = 0xFF)
    (h : TimaCounts q (timerTick p x) y) : TimaCounts (q + 1) x y := by
  rw [timerTick, if_pos full] at h
  obtain ⟨without, further⟩ := h
  dsimp only at without further
  have tma := x.1.tma.isLt
  have twice : x.2 ||| 0b00100 ||| 0b00100 = x.2 ||| 0b00100 := by rw [BitVec.or_assoc]; rfl
  have top : x.1.tima.toNat = 255 := congrArg BitVec.toNat full
  have left : 255 + (q + 1) - 256 = q := by omega
  rw [TimaCounts, top, left]
  refine ⟨fun few => absurd few (by omega), fun _ => ?_⟩
  by_cases hq : x.1.tma.toNat + q ≤ 255
  · obtain ⟨tima, ifl⟩ := without hq
    exact ⟨by rw [tima, Nat.mod_eq_of_lt (by omega)], ifl⟩
  · obtain ⟨tima, ifl⟩ := further (by omega)
    rw [twice] at ifl
    have wrapped : q - (256 - x.1.tma.toNat) = x.1.tma.toNat + q - 256 := by omega
    exact ⟨by rw [tima, Nat.mod_eq_sub_mod (by omega : q ≥ 256 - x.1.tma.toNat), wrapped], ifl⟩

/-- A pass that does not overflow is one count. -/
theorem timaCounts_count {p q : Nat} {x y : Timer × BitVec 5} (room : x.1.tima ≠ 0xFF)
    (h : TimaCounts q (timerTick p x) y) : TimaCounts (q + 1) x y := by
  have up : (x.1.tima + 1).toNat + q = x.1.tima.toNat + (q + 1) := by bv_omega
  rw [timerTick, if_neg room, TimaCounts, up] at h
  exact h

/-- The loop counts TIMA once for each whole period (60_exceptions.md R341). -/
theorem timerLoop_counts {p : Nat} (q : Nat) {x : Timer × BitVec 5} (h : q * p ≤ x.1.acc) :
    TimaCounts q x (timerLoop p q x) := by
  induction q generalizing x with
  | zero => exact timaCounts_zero x
  | succ q ih =>
    rw [Nat.succ_mul] at h
    obtain ⟨drained, -⟩ := timerTick_facts p x
    have rest : TimaCounts q (timerTick p x) (timerLoop p q (timerTick p x)) := ih (by omega)
    rw [timerLoop, if_pos (by omega)]
    by_cases full : x.1.tima = 0xFF
    · exact timaCounts_overflow full rest
    · exact timaCounts_count full rest

/-- The period is the entry of the table that TAC's low two bits select (60_exceptions.md R342). -/
theorem timerPeriod_table : ∀ tac : BitVec 3, timerPeriod tac = [1024, 16, 64, 256].getD (tac.toNat % 4) 0 := by
  decide

/-- The timer as the sub-timer's loop finds it: `n` T-cycles on the counter and in the accumulator. -/
def credited (n : Nat) (t : Timer) : Timer :=
  { t with sysCounter := t.sysCounter + BitVec.ofNat 16 n, acc := t.acc + n }

/-- The timer and IF that a running sub-timer's loop ends in (60_exceptions.md R341). -/
def timerRun (n : Nat) (s : State) : Timer × BitVec 5 :=
  timerLoop (timerPeriod s.timer.tac) ((s.timer.acc + n) / timerPeriod s.timer.tac) (credited n s.timer, s.irq.ifl)

theorem timerAdvance_running {n : Nat} {s : State} (on : timerEnabled s.timer.tac = true) :
    timerAdvance n s = { s with timer := (timerRun n s).1, irq := { s.irq with ifl := (timerRun n s).2 } } := if_pos on

theorem timerAdvance_stopped {n : Nat} {s : State} (off : timerEnabled s.timer.tac = false) :
    timerAdvance n s = { s with timer := { s.timer with sysCounter := s.timer.sysCounter + BitVec.ofNat 16 n } } :=
  if_neg (Bool.eq_false_iff.1 off)

/-- A running sub-timer drains the whole periods and counts each (60_exceptions.md R341). -/
theorem timerRun_facts (n : Nat) (s : State) :
    (timerRun n s).1.acc = (s.timer.acc + n) % timerPeriod s.timer.tac ∧ (timerRun n s).1.tma = s.timer.tma ∧
      (timerRun n s).1.tac = s.timer.tac ∧
      (timerRun n s).1.sysCounter = s.timer.sysCounter + BitVec.ofNat 16 n ∧
      TimaCounts ((s.timer.acc + n) / timerPeriod s.timer.tac) (s.timer, s.irq.ifl) (timerRun n s) := by
  obtain ⟨acc, tma, tac, counter⟩ :=
    timerLoop_facts (timerPeriod_pos s.timer.tac) _ (credited n s.timer, s.irq.ifl) le_rfl
  have counts : TimaCounts _ (credited n s.timer, s.irq.ifl) (timerRun n s) :=
    timerLoop_counts _ (Nat.div_mul_le_self _ _)
  exact ⟨acc, tma, tac, counter, counts⟩

/-- Settles O52: a stopped sub-timer stands, and a running one drains the whole periods and counts each. -/
theorem timerClosedForm : Obligations.TimerClosedForm := by
  intro n s t p q
  have counted : (s.timer.sysCounter + BitVec.ofNat 16 n).toNat = (s.timer.sysCounter.toNat + n) % 65536 := by simp
  by_cases on : timerEnabled s.timer.tac = true
  · have running : t = _ := timerAdvance_running on
    obtain ⟨acc, tma, tac, counter, counts⟩ := timerRun_facts n s
    rw [timerPeriod_table] at acc counts
    rw [running]
    exact ⟨(congrArg BitVec.toNat counter).trans counted, tma, tac, rfl, fun off => absurd (off.symm.trans on) nofun,
      fun _ => ⟨acc, counts⟩⟩
  · have stopped : t = _ := timerAdvance_stopped (Bool.eq_false_iff.2 on)
    rw [stopped]
    exact ⟨counted, rfl, rfl, rfl, fun _ => ⟨rfl, rfl, rfl⟩, fun on' => absurd on' on⟩

end Sys2Proof.Machine

namespace Sys2Proof

/-- The bytes an instruction takes decode to it with nothing left (30_encoding.md R116). -/
theorem decode_take {op : Byte} {bs r : List Byte} {i : Instr} (h : decode (op :: bs) = .ok (i, r)) :
    decode (op :: bs.take (instrLength op - 1)) = .ok (i, []) := by
  obtain ⟨length, -⟩ := decode_rest h
  have := instrLength_range op
  have enough : (bs.take (instrLength op - 1)).length + 1 = instrLength op := by
    rw [List.length_take]
    omega
  obtain ⟨j, hj⟩ := decode_exact enough
  have longer := decode_append hj (bs.drop (instrLength op - 1))
  rw [List.cons_append, List.take_append_drop, h] at longer
  cases longer
  exact hj

namespace Machine

/-! ### A step that executes -/

/-- What a step from `s` makes of its instruction's outcome: the EI delay and then the advances (60_exceptions.md R350,
R351). -/
def finishStep (s : State) : Host.Outcome State Fault Refusal → Host.Outcome State Fault Refusal
  | .next t => .next (advanceAll (currentInput s) (applyEiDelay s.engine.imeScheduled t))
  | .fault r => .fault r
  | .refused r => .refused r

/-- A step that executes runs the instruction its fetched bytes decode to (60_exceptions.md R350, R351). -/
theorem step_executes {s : State} {i : Instr} {rest : List Byte} (running : s.engine.refused = false)
    (part : cpuPart (atStepStart s) = .execute)
    (decoded : decode (fetchInstr (awake (atStepStart s))).1 = .ok (i, rest)) :
    step s = finishStep s (exec i (fetched (atStepStart s))) := by
  have cpu : runCpu (atStepStart s) = executeOne (awake (atStepStart s)) := by
    rw [runCpu, part]
    rfl
  rw [atStepStart] at cpu
  rw [step, runStep, if_neg (Bool.eq_false_iff.1 running), cpu, executeOne, ← atStepStart]
  rw [decoded, fetched]
  dsimp only
  cases exec i (fetchInstr (awake (atStepStart s))).2 <;> rfl

/-- The fetch of an instruction that stands in the bytes at PC: they decode to it with nothing left, and PC goes past
it (60_exceptions.md R351). -/
theorem fetchInstr_at_pc {s : State} {i : Instr} {rest : List Byte} (bug : s.engine.haltBug = false)
    (inside : ∀ k, k < instrLength (peek s s.regs.pc) → answeredOutside s (s.regs.pc + BitVec.ofNat 16 k) = false)
    (h : decode [peek s s.regs.pc, peek s (s.regs.pc + 1), peek s (s.regs.pc + 2)] = .ok (i, rest)) :
    decode (fetchInstr s).1 = .ok (i, []) ∧
      (fetchInstr s).2 =
        { s with
          regs := { s.regs with pc := s.regs.pc + BitVec.ofNat 16 (3 - rest.length) }
          opAddr := s.regs.pc } := by
  obtain ⟨length, -⟩ := decode_rest h
  obtain ⟨positive, atMost⟩ := instrLength_range (peek s s.regs.pc)
  have past : opcodeAdvance s = 1 := by rw [opcodeAdvance, bug]; rfl
  have operands : (List.range (instrLength (peek s s.regs.pc) - 1)).map
      (fun k => peek s (s.regs.pc + 1 + BitVec.ofNat 16 k)) =
        [peek s (s.regs.pc + 1), peek s (s.regs.pc + 2)].take (instrLength (peek s s.regs.pc) - 1) := by
    have both : [peek s (s.regs.pc + 1), peek s (s.regs.pc + 2)] =
        (List.range 2).map fun k => peek s (s.regs.pc + 1 + BitVec.ofNat 16 k) := by
      simp only [addr_succ]
      rfl
    rw [both, ← List.map_take, List.take_range, Nat.min_eq_left (by omega)]
  rw [fetchInstr_core inside, past, operands, addr_succ]
  refine ⟨decode_take h, ?_⟩
  have byteCount : instrLength (peek s s.regs.pc) - 1 + 1 = 3 - rest.length := by
    simp only [List.length_cons, List.length_nil] at length
    omega
  rw [byteCount, afterOpcode, ← bug]
  rfl

/-- Settles O46: the step finishes the instruction that the fetched bytes decode to, and these are the bytes at PC where
the core answers them. -/
theorem stepRunsDecoded : Obligations.StepRunsDecoded := by
  intro s i rest s0 pc f running part
  refine ⟨step_executes running part, fun bug inside h => ?_⟩
  have sees (a : Addr) : peek (awake s0) a = peek s0 a := peek_engine s0 _ a
  obtain ⟨decoded, after⟩ := fetchInstr_at_pc (s := awake s0) (i := i) (rest := rest) bug
    (fun k hk => inside k (sees pc ▸ hk)) (by rw [sees, sees, sees]; exact h)
  exact (step_executes running part decoded).trans (congrArg (fun u => finishStep s (exec i u)) after)

end Machine
end Sys2Proof

namespace Sys2Proof.Machine

/-! ### The registers after the older generation's boot-skip -/

/-- What DIV, IF and TAC read as once the older generation's post-boot row is loaded (70_reset_and_hazards.md R386). -/
theorem loadPostBoot_dmg_reads (s : State) :
    let t := loadPostBoot postBootDmg s
    (readByte t 0xFF04).1 = 0xAB ∧ (readByte t 0xFF0F).1 = 0xE1 ∧ (readByte t 0xFF07).1 = 0xF8 := by
  intro t
  obtain ⟨⟨div, -⟩, -, -, ⟨tac, -⟩, ⟨ifl, -⟩, -⟩ := ioRegisterMap t 0
  have counter : t.timer.sysCounter = 0xABCC := rfl
  have requests : t.irq.ifl = 0x01 := rfl
  have control : t.timer.tac = 0 := rfl
  rw [div, ifl, tac, counter, requests, control]
  exact ⟨rfl, rfl, rfl⟩

/-- Settles O59: the key of such a device is the older row, and the row sets each field it holds. -/
theorem bootSkipDmg : Obligations.BootSkipDmg := by
  intro s older notNewerOnly
  obtain ⟨-, row, -, loads⟩ := bootSkipKey s
  obtain ⟨af, bc, de, hl, sp, pc, irq, timer, latch, engine, mem, bootRom, collab, params, totalCycles⟩ :=
    loads postBootDmg
  obtain ⟨div, ifl, tac⟩ := loadPostBoot_dmg_reads s
  exact ⟨_, row older notNewerOnly, af, bc, de, hl, sp, pc, congrArg Timer.sysCounter timer, div,
    congrArg Irq.ifl irq, ifl, congrArg Irq.ie irq, congrArg Timer.tima timer, congrArg Timer.tma timer,
    congrArg Timer.tac timer, tac, latch, congrArg Timer.acc timer, engine, totalCycles, mem, bootRom, collab, params⟩

end Sys2Proof.Machine
